-- ==== Sys2Proof/Word.lean ====
section
/-! DEFINITION. The two word types of the block (00_scope R6): the wire octet and the 16-bit word. -/

namespace Sys2Proof

/-- A wire octet, a station address, a frame-type octet: 8 bits unsigned (R6, R45). -/
abbrev Octet := BitVec 8

/-- The length field and the data CRC: 16 bits unsigned (R6). -/
abbrev Word16 := BitVec 16

end Sys2Proof
end

