-- ==== Sys2Proof/Syntax.lean ====
section
/-! DEFINITION. The syntax: the frame record, the frame types as instructions (one constructor per row of
spec/opcode_table.json), the host operations and the events of the one total order of steps. -/

namespace Sys2Proof

/-- The block's frame value (R303): the received length is not kept, it is the length of `data`. -/
structure Frame where
  type : Octet
  destination : Octet
  source : Octet
  data : List Octet
  deriving DecidableEq, Repr, Inhabited

/-- The frame types, the block's opcodes (R57, R61; 44_frame_types.md R220 to R228). Every received frame of a type
may carry data (R229), so every constructor holds it. An UNKNOWN row holds in `low` the type bits its mask leaves
free. -/
inductive Instr
  /-- 0x00 (R220). -/
  | token (destination source : Octet) (data : List Octet)
  /-- 0x01, poll for master (R221). -/
  | pfm (destination source : Octet) (data : List Octet)
  /-- 0x02, reply to poll for master (R222). -/
  | rpfm (destination source : Octet) (data : List Octet)
  /-- 0x03, test request (R223). -/
  | treq (destination source : Octet) (data : List Octet)
  /-- 0x04, test response (R224). -/
  | tresp (destination source : Octet) (data : List Octet)
  /-- 0x05, data expecting reply (R225). -/
  | der (destination source : Octet) (data : List Octet)
  /-- 0x06, data not expecting reply (R226). -/
  | dner (destination source : Octet) (data : List Octet)
  /-- 0x07, reply postponed (R227). -/
  | rpost (destination source : Octet) (data : List Octet)
  /-- 0x08 to 0x0F (R228). -/
  | unknown08 (low : BitVec 3) (destination source : Octet) (data : List Octet)
  /-- 0x10 to 0x1F (R228). -/
  | unknown10 (low : BitVec 4) (destination source : Octet) (data : List Octet)
  /-- 0x20 to 0x3F (R228). -/
  | unknown20 (low : BitVec 5) (destination source : Octet) (data : List Octet)
  /-- 0x40 to 0x7F (R228). -/
  | unknown40 (low : BitVec 6) (destination source : Octet) (data : List Octet)
  /-- 0x80 to 0xFF (R228). -/
  | unknown80 (low : BitVec 7) (destination source : Octet) (data : List Octet)
  deriving DecidableEq, Repr, Inhabited

/-- The data octets a frame carries. -/
def Instr.data : Instr → List Octet
  | .token _ _ x => x
  | .pfm _ _ x => x
  | .rpfm _ _ x => x
  | .treq _ _ x => x
  | .tresp _ _ x => x
  | .der _ _ x => x
  | .dner _ _ x => x
  | .rpost _ _ x => x
  | .unknown08 _ _ _ x => x
  | .unknown10 _ _ _ x => x
  | .unknown20 _ _ _ x => x
  | .unknown40 _ _ _ x => x
  | .unknown80 _ _ _ x => x

/-- The host operations (R150). Integer operands are of any size (R156 to R158, R162). -/
inductive HostOp
  | construct (thisStation retryCount : Int)
  /-- `initialize()` (R161); Lean takes that word for a command of its own. -/
  | initializeBlock
  | queueFrame (type destination : Octet) (data : List Octet)
  | setReplyFrame (type destination : Octet) (data : List Octet)
  | setMaxMaster (n : Int)
  | setMaxInfoFrames (n : Int)
  | setUsageTimeout (n : Int)
  | hasReceivedToken
  | terminate
  deriving DecidableEq, Repr, Inhabited

/-- One step of one agent, at the place the total order gives it (R49, R52, R55). -/
inductive Event
  /-- The worker takes one micro-step with time input `now` (R5, R103). -/
  | worker (now : Int)
  /-- A host caller calls an operation at time `now` (R151). -/
  | host (op : HostOp) (now : Int)
  /-- The environment appends octets to the input FIFO (R33). -/
  | receive (octets : List Octet)
  /-- The `k`-th of the calls held on a full queue looks for room again (R154). -/
  | resume (k : Nat)
  deriving DecidableEq, Repr, Inhabited

end Sys2Proof
end

