-- ==== Sys2Proof/Config.lean ====
section
/-! DEFINITION. What is fixed for the block (MAX_MASTER, broadcast), the implementation parameters of R3
and R4 with their defaults, and the one free value: the environment's next step. -/

namespace Sys2Proof.Config

/-- `MAX_MASTER`: 127, not an example value (R3, I3). -/
abbrev maxMaster : Nat := 127

/-- The reserved broadcast address (R45). -/
abbrev broadcastAddress : Octet := 0xFF

/-- The parameters of the frame codec (R3, R4). The seeds and the final complement are part of the two CRC parameters (G3).
A step function has a finite domain, so as plain data it is the list of
the points at which it differs from the spec's default: every function of R63's and R64's types is some such list
(log 5). -/
structure Codec where
  /-- `MAX_DATA`, octets. -/
  maxData : Nat
  /-- `HDR_CRC_STEP`: `((d, c), result)` where it differs from R63's function. -/
  hdrCrcPoints : List ((Octet × Octet) × Octet)
  /-- `DATA_CRC_STEP`: `((d, c), result)` where it differs from R64's function. -/
  dataCrcPoints : List ((Octet × Word16) × Word16)
  /-- The header CRC register before the first octet (R69). -/
  hdrCrcSeed : Octet
  /-- The bits of the final header CRC register that are inverted (R69). -/
  hdrCrcFinal : Octet
  /-- The data CRC register before the first octet (R71). -/
  dataCrcSeed : Word16
  /-- The bits of the final data CRC register that are inverted (R71). -/
  dataCrcFinal : Word16
  deriving DecidableEq, Repr, Inhabited

/-- The defaults of R3 and R4: 501 octets, the functions of R63 and R64 everywhere, and the seeds and the ones' complement
of R69 and R71. -/
abbrev defaultCodec : Codec where
  maxData := 501
  hdrCrcPoints := []
  dataCrcPoints := []
  hdrCrcSeed := 0xFF
  hdrCrcFinal := 0xFF
  dataCrcSeed := 0xFFFF
  dataCrcFinal := 0xFFFF

/-- The implementation parameters of R3 and R4. They are arguments of the model: State carries them, no step writes
them, and statements hold for all of them (log 3). -/
structure Params where
  /-- `T_NO_TOKEN`, ms. -/
  tNoToken : Nat
  /-- `T_REPLY_TIMEOUT`, ms. -/
  tReplyTimeout : Nat
  /-- `T_REPLY_DELAY`, ms. -/
  tReplyDelay : Nat
  /-- `T_SLOT`, ms. -/
  tSlot : Nat
  /-- `N_POLL`. -/
  nPoll : Nat
  /-- `N_RETRY_TOKEN`. -/
  nRetryToken : Nat
  /-- `N_MIN_OCTETS`. -/
  nMinOctets : Nat
  /-- `MAX_MASTER_DEFAULT`. -/
  maxMasterDefault : Octet
  /-- `MAX_INFO_FRAMES_DEFAULT`. -/
  maxInfoFramesDefault : Nat
  /-- `USAGE_TIMEOUT_DEFAULT`, ms. -/
  usageTimeoutDefault : Nat
  /-- `T_FRAME_ABORT`, ms, OPEN (D9). -/
  tFrameAbort : Nat
  /-- `QUEUE_CAPACITY`, OPEN; `none` is unbounded (D18). -/
  queueCapacity : Option Nat
  /-- `MAX_DATA`, `HDR_CRC_STEP`, `DATA_CRC_STEP` with their seeds and final complement. -/
  codec : Codec
  deriving DecidableEq, Repr, Inhabited

/-- The defaults of R3 and R4. DESIGN CHOICE (log 4), unsafe: the OPEN `T_FRAME_ABORT` is given the value the spec's
vectors use. -/
def defaultParams : Params where
  tNoToken := 500
  tReplyTimeout := 255
  tReplyDelay := 250
  tSlot := 10
  nPoll := 50
  nRetryToken := 1
  nMinOctets := 4
  maxMasterDefault := 127
  maxInfoFramesDefault := 1
  usageTimeoutDefault := 20
  tFrameAbort := 100
  queueCapacity := none
  codec := defaultCodec

/-- FREE VALUE (log 6), safe for the one block: the step that comes next once the schedule in State is used up is the
environment's choice (R5, R33, R55, R237). The blocks of a bus share it (log 28). -/
opaque environmentEvent : Nat → Event

end Sys2Proof.Config
end

