-- ==== Sys2Proof/WellFormed.lean ====
section
/-! DEFINITION. Well-formedness of frames, instructions and parameters. -/

namespace Sys2Proof

/-- A frame the wire format can carry: `data` is 0 to `MAX_DATA` octets (R59, R303). -/
abbrev Frame.WellFormed (f : Frame) (k : Config.Codec) : Prop := f.data.length ≤ k.maxData

/-- An instruction the wire format can carry (R59, R300, R303). Types and addresses fill their fields, so the length is
the only check. -/
abbrev Instr.WellFormed (i : Instr) (k : Config.Codec) : Prop := i.data.length ≤ k.maxData

/-- `MAX_DATA` fits the 16-bit length field (R6, R59; DEDUCED, log 3). -/
abbrev Config.Codec.WellFormed (k : Config.Codec) : Prop := k.maxData ≤ 65535

/-- The constraints the model checks on the parameters (R3, R4, D33), that the three register defaults are legal register
values (R9 to R11; DEDUCED, log 3), and the codec's. -/
abbrev Config.Params.WellFormed (p : Config.Params) : Prop :=
  1 ≤ p.tNoToken ∧ 1 ≤ p.tReplyDelay ∧ 1 ≤ p.tSlot ∧ 1 ≤ p.nPoll ∧ 1 ≤ p.tFrameAbort ∧
  p.maxMasterDefault.toNat = Config.maxMaster ∧ 1 ≤ p.maxInfoFramesDefault ∧
  20 ≤ p.usageTimeoutDefault ∧ p.usageTimeoutDefault ≤ 100 ∧ p.codec.WellFormed

end Sys2Proof
end

