-- ==== Sys2Proof/Decode.lean ====
section
/-! DEFINITION. The frame codec (40_frame_codec.md): the frame types, the CRCs, the decoder (total on any octets,
rejecting by name), the encoder, and the opcode table's word numbering. -/

namespace Sys2Proof

/-! ## Frame types (R57) -/

abbrev typeToken : Octet := 0x00
abbrev typePfm : Octet := 0x01
abbrev typeRpfm : Octet := 0x02
abbrev typeTreq : Octet := 0x03
abbrev typeTresp : Octet := 0x04
abbrev typeDer : Octet := 0x05
abbrev typeDner : Octet := 0x06
abbrev typeRpost : Octet := 0x07

/-- `known(t)`: the eight defined types (R74). -/
def knownType (t : Octet) : Bool := t.toNat ≤ 0x07

/-- The mnemonic column of R57 with the opcode table's mask rows. -/
structure OpcodeRow where
  mnemonic : String
  pattern : Octet
  mask : Octet
  deriving DecidableEq, Repr

/-- spec/opcode_table.json, in its order. -/
def opcodeTable : List OpcodeRow :=
  [⟨"TOKEN", 0x00, 0xFF⟩, ⟨"PFM", 0x01, 0xFF⟩, ⟨"RPFM", 0x02, 0xFF⟩, ⟨"TREQ", 0x03, 0xFF⟩, ⟨"TRESP", 0x04, 0xFF⟩,
   ⟨"DER", 0x05, 0xFF⟩, ⟨"DNER", 0x06, 0xFF⟩, ⟨"RPOST", 0x07, 0xFF⟩, ⟨"UNKNOWN_08_0F", 0x08, 0xF8⟩,
   ⟨"UNKNOWN_10_1F", 0x10, 0xF0⟩, ⟨"UNKNOWN_20_3F", 0x20, 0xE0⟩, ⟨"UNKNOWN_40_7F", 0x40, 0xC0⟩,
   ⟨"UNKNOWN_80_FF", 0x80, 0x80⟩]

/-- The type field is matched on all 8 bits against a row's mask (R57). -/
def OpcodeRow.matchesType (row : OpcodeRow) (t : Octet) : Bool := t &&& row.mask == row.pattern

/-- The mnemonic of an instruction's row. -/
def Instr.mnemonic : Instr → String
  | .token .. => "TOKEN"
  | .pfm .. => "PFM"
  | .rpfm .. => "RPFM"
  | .treq .. => "TREQ"
  | .tresp .. => "TRESP"
  | .der .. => "DER"
  | .dner .. => "DNER"
  | .rpost .. => "RPOST"
  | .unknown08 .. => "UNKNOWN_08_0F"
  | .unknown10 .. => "UNKNOWN_10_1F"
  | .unknown20 .. => "UNKNOWN_20_3F"
  | .unknown40 .. => "UNKNOWN_40_7F"
  | .unknown80 .. => "UNKNOWN_80_FF"

/-- The frame record an instruction stands for (R57, R303). -/
def Instr.toFrame : Instr → Frame
  | .token d r x => ⟨typeToken, d, r, x⟩
  | .pfm d r x => ⟨typePfm, d, r, x⟩
  | .rpfm d r x => ⟨typeRpfm, d, r, x⟩
  | .treq d r x => ⟨typeTreq, d, r, x⟩
  | .tresp d r x => ⟨typeTresp, d, r, x⟩
  | .der d r x => ⟨typeDer, d, r, x⟩
  | .dner d r x => ⟨typeDner, d, r, x⟩
  | .rpost d r x => ⟨typeRpost, d, r, x⟩
  | .unknown08 low d r x => ⟨0b00001#5 ++ low, d, r, x⟩
  | .unknown10 low d r x => ⟨0b0001#4 ++ low, d, r, x⟩
  | .unknown20 low d r x => ⟨0b001#3 ++ low, d, r, x⟩
  | .unknown40 low d r x => ⟨0b01#2 ++ low, d, r, x⟩
  | .unknown80 low d r x => ⟨0b1#1 ++ low, d, r, x⟩

/-- The instruction a frame record stands for: every type octet names exactly one row (R57, R61). -/
def Instr.ofFrame (f : Frame) : Instr :=
  if f.type = typeToken then .token f.destination f.source f.data
  else if f.type = typePfm then .pfm f.destination f.source f.data
  else if f.type = typeRpfm then .rpfm f.destination f.source f.data
  else if f.type = typeTreq then .treq f.destination f.source f.data
  else if f.type = typeTresp then .tresp f.destination f.source f.data
  else if f.type = typeDer then .der f.destination f.source f.data
  else if f.type = typeDner then .dner f.destination f.source f.data
  else if f.type = typeRpost then .rpost f.destination f.source f.data
  else if f.type &&& 0xF8 = 0x08 then .unknown08 (f.type.extractLsb' 0 3) f.destination f.source f.data
  else if f.type &&& 0xF0 = 0x10 then .unknown10 (f.type.extractLsb' 0 4) f.destination f.source f.data
  else if f.type &&& 0xE0 = 0x20 then .unknown20 (f.type.extractLsb' 0 5) f.destination f.source f.data
  else if f.type &&& 0xC0 = 0x40 then .unknown40 (f.type.extractLsb' 0 6) f.destination f.source f.data
  else .unknown80 (f.type.extractLsb' 0 7) f.destination f.source f.data

/-! ## CRCs. The two step functions, their seeds and their final complement are arguments (R4, G3). PRESUMED (log 5), unsafe:
their defaults, which the spec takes from general knowledge (D24). -/

/-- The default `HDR_CRC_STEP(d, c)` (R63): one octet of CRC-8, least-significant bit first. -/
def defaultHdrCrcStep (d c : Octet) : Octet :=
  let t : Word16 := (c ^^^ d).setWidth 16
  let t := t ^^^ (t <<< 1) ^^^ (t <<< 2) ^^^ (t <<< 3) ^^^ (t <<< 4) ^^^ (t <<< 5) ^^^ (t <<< 6) ^^^ (t <<< 7)
  ((t &&& 0xFE) ^^^ ((t >>> 8) &&& 0x01)).setWidth 8

/-- The default `DATA_CRC_STEP(d, c)` (R64): one octet of CRC-16, least-significant bit first. The result keeps 16 bits, so the
bits that R64 masks off after `lo << 12` are never formed. -/
def defaultDataCrcStep (d : Octet) (c : Word16) : Word16 :=
  let lo : Word16 := (c &&& 0xFF) ^^^ d.setWidth 16
  (c >>> 8) ^^^ (lo <<< 8) ^^^ (lo <<< 3) ^^^ (lo <<< 12) ^^^ (lo >>> 4) ^^^ (lo &&& 0x0F) ^^^ ((lo &&& 0x0F) <<< 7)

/-- `HDR_CRC_STEP(d, c)`, the argument (R4, R63). -/
def hdrCrcStep (k : Config.Codec) (d c : Octet) : Octet :=
  (k.hdrCrcPoints.lookup (d, c)).getD (defaultHdrCrcStep d c)

/-- `DATA_CRC_STEP(d, c)`, the argument (R4, R64). -/
def dataCrcStep (k : Config.Codec) (d : Octet) (c : Word16) : Word16 :=
  (k.dataCrcPoints.lookup (d, c)).getD (defaultDataCrcStep d c)

/-- The header CRC register after the octets, from the seed (R69). -/
def hdrCrcRegister (k : Config.Codec) (octets : List Octet) : Octet :=
  octets.foldl (fun c d => hdrCrcStep k d c) k.hdrCrcSeed

/-- `HeaderCRC`: the register with its final complement (R69). -/
def headerCrc (k : Config.Codec) (header : List Octet) : Octet := hdrCrcRegister k header ^^^ k.hdrCrcFinal

/-- The data CRC register after the octets, from the seed (R71). -/
def dataCrcRegister (k : Config.Codec) (octets : List Octet) : Word16 :=
  octets.foldl (fun c d => dataCrcStep k d c) k.dataCrcSeed

/-- `DataCRC`: the register with its final complement (R71). -/
def dataCrc (k : Config.Codec) (data : List Octet) : Word16 := dataCrcRegister k data ^^^ k.dataCrcFinal

/-- Bits 7..0 of a 16-bit word. -/
def lowOctet (w : Word16) : Octet := w.setWidth 8

/-- Bits 15..8 of a 16-bit word. -/
def highOctet (w : Word16) : Octet := (w >>> 8).setWidth 8

/-- The length field, high octet first (R46, R59). -/
def frameLength (lenHi lenLo : Octet) : Word16 := (lenHi.setWidth 16 <<< 8) ||| lenLo.setWidth 16

/-! ## The decoder -/

/-- Why octets are no frame: the four causes of R27, and octets that do not start with the preamble (R301). -/
inductive DecodeError
  | badPreamble
  | badHeaderCrc
  | frameTooLong
  | badDataCrc
  | truncated
  deriving DecidableEq, Repr

/-- The data part of a frame with `len > 0`: `len` octets, then the data CRC low octet first (R58, R72). -/
def decodeData (k : Config.Codec) (type destination source : Octet) (len : Nat) (octets : List Octet) :
    Except DecodeError (Instr × List Octet) :=
  match octets.drop len with
  | lo :: hi :: rest =>
    let data := octets.take len
    if lo = lowOctet (dataCrc k data) ∧ hi = highOctet (dataCrc k data) then
      .ok (Instr.ofFrame ⟨type, destination, source, data⟩, rest)
    else .error .badDataCrc
  | _ => .error .truncated

/-- The frame at the head of the octets, and the octets after it (R58, R59, R70, R72, R75). -/
def decode (k : Config.Codec) : List Octet → Except DecodeError (Instr × List Octet)
  | p1 :: p2 :: type :: destination :: source :: lenHi :: lenLo :: hdrCrc :: rest =>
    if p1 ≠ 0x55 ∨ p2 ≠ 0xFF then .error .badPreamble
    else if hdrCrc ≠ headerCrc k [type, destination, source, lenHi, lenLo] then .error .badHeaderCrc
    else if k.maxData < (frameLength lenHi lenLo).toNat then .error .frameTooLong
    else if frameLength lenHi lenLo = 0 then .ok (Instr.ofFrame ⟨type, destination, source, []⟩, rest)
    else decodeData k type destination source (frameLength lenHi lenLo).toNat rest
  | _ => .error .truncated

/-! ## The encoder -/

/-- The five header octets of a frame (R58, R62). -/
def headerOctets (f : Frame) : List Octet :=
  [f.type, f.destination, f.source, highOctet (BitVec.ofNat 16 f.data.length), lowOctet (BitVec.ofNat 16 f.data.length)]

/-- `Encode(f)` (R62). -/
def encodeFrame (k : Config.Codec) (f : Frame) : List Octet :=
  [0x55, 0xFF] ++ headerOctets f ++ [headerCrc k (headerOctets f)] ++
    (if f.data = [] then [] else f.data ++ [lowOctet (dataCrc k f.data), highOctet (dataCrc k f.data)])

/-- The octets of an instruction (R58, R62). -/
def encode (k : Config.Codec) (i : Instr) : List Octet := encodeFrame k i.toFrame

/-! ## The opcode table's words -/

/-- Octet `k` of an instruction's bits, octet 0 in bits 7..0. -/
def wordOctet (nbits w k : Nat) : Octet := BitVec.ofNat 8 ((w % 2 ^ nbits) >>> (8 * k))

/-- The wire octets of a table word. The table numbers the type octet as bits 7..0; destination, source, length and data
octets count on from it. The preamble and the CRC octets are no bits of the table's word: they are the functions of the
others that R58 and R60 make them (DESIGN CHOICE, log 13). -/
def octetsOfWord (k : Config.Codec) (nbits w : Nat) : List Octet :=
  let header := [wordOctet nbits w 0, wordOctet nbits w 1, wordOctet nbits w 2, wordOctet nbits w 3, wordOctet nbits w 4]
  let len := (frameLength (wordOctet nbits w 3) (wordOctet nbits w 4)).toNat
  let data := (List.range len).map fun k => wordOctet nbits w (5 + k)
  [0x55, 0xFF] ++ header ++ [headerCrc k header] ++
    (if len = 0 then [] else data ++ [lowOctet (dataCrc k data), highOctet (dataCrc k data)])

/-- The instruction the decoder with the parameters `k` reads from a table word. -/
def decodeWord (k : Config.Codec) (nbits w : Nat) : Option Instr :=
  match decode k (octetsOfWord k nbits w) with
  | .ok (i, _) => some i
  | .error _ => none

/-- The instruction the decoder with the default parameters reads from a table word. -/
def decodeTableWord (nbits w : Nat) : Option Instr := decodeWord Config.defaultCodec nbits w

end Sys2Proof
end

