-- ==== Sys2Proof/Machine/State.lean ====
section
/-! DEFINITION. The state of the block (10_state.md), its environment side, the reasons a step can stop, and the state
after reset. -/

namespace Sys2Proof.Machine

/-- `state`: the sequencer's control state, eight values (R21, C2). -/
inductive MasterState
  | idle
  | useToken
  | waitForReply
  | doneWithToken
  | passToken
  | noToken
  | pollForMaster
  | answerDataRequest
  deriving DecidableEq, Repr

/-- `phase`: the worker's position in the cycle (R22). `pendingSource` is part of the IDLE_DER_TAIL value (R112). -/
inductive Phase
  | drain
  | slot (s : MasterState)
  | idleDerTail (pendingSource : Octet)
  deriving DecidableEq, Repr

/-- `receivedInvalidFrame`'s causes (R27, R178). -/
inductive InvalidCause
  | badHeaderCrc
  | badDataCrc
  | frameTooLong
  | truncated
  deriving DecidableEq, Repr

/-- `rxState`: the parser state (R28). -/
inductive RxState
  | idle
  | preamble1
  | preamble2
  | header
  | data
  deriving DecidableEq, Repr

/-- `lifecycle` (R32). -/
inductive Lifecycle
  | constructed
  | running
  | terminated
  deriving DecidableEq, Repr

/-- The causes of a `ConfigFault` (R176). -/
inductive ConfigFault
  | stationRange
  | retryCount
  | maxMaster
  | maxInfoFrames
  | usageTimeout
  | frameType
  | dataLength
  | lifecycle
  deriving DecidableEq, Repr

/-- Configuration registers (R7 group 1). -/
structure ConfigRegs where
  /-- R8. -/
  thisStation : Octet
  /-- R9. -/
  maxMaster : Octet
  /-- R10. -/
  maxInfoFrames : Nat
  /-- R11, ms. -/
  usageTimeout : Nat
  deriving DecidableEq, Repr

/-- Sequencer registers (R7 group 2). -/
structure SequencerRegs where
  /-- R21. -/
  state : MasterState
  /-- R22. -/
  phase : Phase
  /-- R12. -/
  nextStation : Octet
  /-- R13. -/
  pollStation : Octet
  /-- R14. -/
  soleMaster : Bool
  /-- R15. -/
  receivedToken : Bool
  /-- R16. -/
  retryCount : Nat
  /-- R17. -/
  tokenCount : Nat
  /-- R18. -/
  frameCount : Nat
  /-- R23, ms. -/
  replyDeadline : Int
  /-- R24. -/
  answerSource : Octet
  deriving DecidableEq, Repr

/-- Receiver registers (R7 group 4). -/
structure ReceiverRegs where
  /-- R20, ms. -/
  lastNonSilence : Int
  /-- R25. -/
  receivedValidFrame : Bool
  /-- R26; `none` is the spec's own "empty, meaning no frame". -/
  frame : Option Frame
  /-- R27; `none` is the spec's own value. -/
  receivedInvalidFrame : Option InvalidCause
  /-- R28. -/
  rxState : RxState
  /-- R29. -/
  rxHeader : List Octet
  /-- R29. -/
  rxData : List Octet
  /-- R29. -/
  rxLen : Word16
  deriving DecidableEq, Repr

/-- Buffers (R7 group 5). -/
structure Buffers where
  /-- R30, oldest first. -/
  framesToSend : List Frame
  /-- R31; `none` is the spec's own value. -/
  replyFrame : Option Frame
  deriving DecidableEq, Repr

/-- The two delivery events (R152, R153, D40). -/
inductive Delivery
  | noReply (f : Frame)
  | needingReply (f : Frame)
  deriving DecidableEq, Repr

/-- An element of the transmit stream: one whole encoded frame, stamped (R34, R100). -/
structure Transmission where
  time : Int
  octets : List Octet
  deriving DecidableEq, Repr

/-- An element of the delivery stream, stamped (R34). -/
structure DeliveryEvent where
  time : Int
  delivery : Delivery
  deriving DecidableEq, Repr

/-- An element of the publication stream: `Publish(maxMaster, maxInfoFrames)`, stamped (R34, R161). -/
structure Publication where
  time : Int
  maxMaster : Nat
  maxInfoFrames : Nat
  deriving DecidableEq, Repr

/-- What a completed host operation gives its caller (R150, R176). -/
inductive HostResult
  | ok
  | configFault (cause : ConfigFault)
  | boolean (b : Bool)
  deriving DecidableEq, Repr

/-- A completed call and its result. -/
structure HostReturn where
  op : HostOp
  result : HostResult
  deriving DecidableEq, Repr

/-- A call held on a full queue and the frame it has to push (R154). -/
structure WaitingCall where
  op : HostOp
  frame : Frame
  deriving DecidableEq, Repr

/-- The environment side (R33, R34): the inputs, the output streams, the host callers' side, and the total order of
steps to come (R55, log 6). -/
structure Environment where
  /-- The time input of the step in progress, ms (R5). -/
  now : Int
  /-- R33, oldest first. -/
  inputFifo : List Octet
  /-- R34, oldest first. -/
  transmitted : List Transmission
  /-- R34, oldest first. -/
  delivered : List DeliveryEvent
  /-- R34, oldest first. -/
  published : List Publication
  /-- Calls held on a full queue (R151, R154; log 10). -/
  waiting : List WaitingCall
  /-- Results of completed host calls, oldest first (log 9). -/
  returned : List HostReturn
  /-- The steps to come, next first (the model's own, log 6). -/
  schedule : List Event
  /-- How many steps past the schedule's end were drawn from `Config.environmentEvent` (the model's own, log 6). -/
  environmentIndex : Nat
  deriving DecidableEq, Repr

/-- The whole state: the six groups of R7, the environment side, and the parameters (log 3). -/
structure State where
  params : Config.Params
  cfg : ConfigRegs
  seq : SequencerRegs
  /-- R19, shared by the receiver and the sequencer (R7 group 3). -/
  eventCount : Nat
  rx : ReceiverRegs
  buf : Buffers
  lifecycle : Lifecycle
  env : Environment
  deriving DecidableEq, Repr

/-- Why the machine stops with a fault. -/
inductive Fault
  /-- `F_UNREACHABLE_QUEUE_TYPE`, raised by the USE_TOKEN handler for a queued frame whose type is none of DER, TREQ,
  DNER, TRESP (R114, I14). Safe: the spec names the fault, and no well-formed state reaches it. -/
  | unreachableQueueType (type : Octet)
  deriving DecidableEq, Repr

/-- Why an instruction has no meaning. -/
inductive Refusal
  /-- Raised by an arm of `exec` whose instruction is not modelled; no arm raises it. Safe. -/
  | notModelled (mnemonic : String)
  deriving DecidableEq, Repr

/-- An environment with nothing in it: no octets, no events, nothing scheduled. DESIGN CHOICE (log 7): `now` is 0 until
a step supplies it. -/
def Environment.empty : Environment where
  now := 0
  inputFifo := []
  transmitted := []
  delivered := []
  published := []
  waiting := []
  returned := []
  schedule := []
  environmentIndex := 0

/-- Every register at its construction value (R230), for parameters `p`, station address `ts` and construction argument
`rc`. -/
def State.constructed (p : Config.Params) (ts : Octet) (rc : Nat) (env : Environment) : State where
  params := p
  cfg :=
    { thisStation := ts
      maxMaster := p.maxMasterDefault
      maxInfoFrames := p.maxInfoFramesDefault
      usageTimeout := p.usageTimeoutDefault }
  seq :=
    { state := .idle
      phase := .drain
      nextStation := ts
      pollStation := ts
      soleMaster := false
      receivedToken := false
      retryCount := rc
      tokenCount := 0
      frameCount := 0
      replyDeadline := 0
      answerSource := 0 }
  eventCount := 0
  rx :=
    { lastNonSilence := 0
      receivedValidFrame := false
      frame := none
      receivedInvalidFrame := none
      rxState := .idle
      rxHeader := []
      rxData := []
      rxLen := 0 }
  buf := { framesToSend := [], replyFrame := none }
  lifecycle := .constructed
  env := env

/-- The machine right after reset, which is construction (R230). DESIGN CHOICE (log 1, log 2), unsafe: the construction
arguments are station address 0 and `retryCount` 0. -/
def State.reset : State := State.constructed Config.defaultParams 0 0 Environment.empty

end Sys2Proof.Machine
end

