-- ==== Sys2Proof/Machine/Operands.lean ====
section
/-! DEFINITION. The operand forms of a frame (who it is addressed to), the modular address arithmetic, and the codes the
spec gives its named values. -/

namespace Sys2Proof.Machine

/-- `forStation(f, ts)` (R65). -/
def forStation (f : Frame) (ts : Octet) : Bool := f.destination == ts

/-- `broadcast(f)` (R67). -/
def broadcast (f : Frame) : Bool := f.destination == Config.broadcastAddress

/-- `forStationOrBroadcast(f, ts)` (R66). -/
def forStationOrBroadcast (f : Frame) (ts : Octet) : Bool := forStation f ts || broadcast f

/-- The three addressing columns of 44_frame_types.md: to TS, bcast, other. -/
inductive Addressing
  | toThis
  | broadcast
  | other
  deriving DecidableEq, Repr

/-- The column a frame falls under at station `ts` (44_frame_types.md; R65, R67). -/
def addressing (f : Frame) (ts : Octet) : Addressing :=
  if forStation f ts then .toThis else if broadcast f then .broadcast else .other

/-- `adjacent(x) = (x + 1) mod (maxMaster + 1)`, formed as an unbounded integer (R68). -/
def adjacentAddress (maxMaster x : Octet) : Octet := BitVec.ofNat 8 ((x.toNat + 1) % (maxMaster.toNat + 1))

/-- `adjacent(x)` with the current `maxMaster` (R68). -/
def State.adjacent (s : State) (x : Octet) : Octet := adjacentAddress s.cfg.maxMaster x

/-- The spec's encoding of `state`, not observable (R21). -/
def masterStateCode : MasterState → BitVec 3
  | .idle => 0
  | .useToken => 1
  | .waitForReply => 2
  | .doneWithToken => 3
  | .passToken => 4
  | .noToken => 5
  | .pollForMaster => 6
  | .answerDataRequest => 7

/-- The state whose slot comes next in the pass, `none` after the last (R21's order, R103). -/
def nextSlot : MasterState → Option MasterState
  | .idle => some .useToken
  | .useToken => some .waitForReply
  | .waitForReply => some .doneWithToken
  | .doneWithToken => some .passToken
  | .passToken => some .noToken
  | .noToken => some .pollForMaster
  | .pollForMaster => some .answerDataRequest
  | .answerDataRequest => none

/-- The codes of the invalid-frame causes (R27). -/
def invalidCauseCode : InvalidCause → Nat
  | .badHeaderCrc => 1
  | .badDataCrc => 2
  | .frameTooLong => 3
  | .truncated => 4

/-- The codes of the configuration faults (R176). -/
def configFaultCode : ConfigFault → Nat
  | .stationRange => 1
  | .retryCount => 2
  | .maxMaster => 3
  | .maxInfoFrames => 4
  | .usageTimeout => 5
  | .frameType => 6
  | .dataLength => 7
  | .lifecycle => 8

end Sys2Proof.Machine
end

