-- ==== Sys2Proof/Machine/Flags.lean ====
section
/-! DEFINITION. The conditions the handlers test: the silence timer against its thresholds, the event counter, the reply
deadline, and the two received-frame flags. -/

namespace Sys2Proof.Machine

/-- `silence()`: `now - lastNonSilence`, never clamped (R80). -/
def State.silence (s : State) : Int := s.env.now - s.rx.lastNonSilence

/-- IDLE's lost-token test (R106). -/
def State.tokenLost (s : State) : Bool := (s.params.tNoToken : Int) ≤ s.silence

/-- WAIT_FOR_REPLY's timeout test, strict (R116). -/
def State.replyTimedOut (s : State) : Bool := (s.params.tReplyTimeout : Int) < s.silence

/-- `silence() >= usageTimeout` (R128, R138). -/
def State.usageTimedOut (s : State) : Bool := (s.cfg.usageTimeout : Int) ≤ s.silence

/-- `eventCount > N_MIN_OCTETS` (R129, R133). -/
def State.activitySeen (s : State) : Bool := s.params.nMinOctets < s.eventCount

/-- NO_TOKEN's `delay = T_NO_TOKEN + T_SLOT * thisStation` (R132). -/
def State.noTokenDelay (s : State) : Int := s.params.tNoToken + s.params.tSlot * s.cfg.thisStation.toNat

/-- NO_TOKEN's fallback bound `T_NO_TOKEN + T_SLOT * (maxMaster + 1)` (R132). -/
def State.noTokenBound (s : State) : Int := s.params.tNoToken + s.params.tSlot * (s.cfg.maxMaster.toNat + 1)

/-- NO_TOKEN's second condition: the station's slot window, or past the whole slot range (R132, R134). -/
def State.mayGenerateToken (s : State) : Bool :=
  (s.noTokenDelay ≤ s.silence && s.silence < s.noTokenDelay + s.params.tSlot) || s.noTokenBound < s.silence

/-- The abort test of the drain (R83). -/
def State.abortDue (s : State) : Bool := (s.params.tFrameAbort : Int) ≤ s.silence

/-- POLL_FOR_MASTER's long condition (R138). -/
def State.longCondition (s : State) : Bool := s.usageTimedOut || s.rx.receivedInvalidFrame.isSome

/-- `tokenCount < N_POLL - 1`, the difference an integer (R120). -/
def State.withinPollInterval (s : State) : Bool := (s.seq.tokenCount : Int) < (s.params.nPoll : Int) - 1

/-- `now > replyDeadline`, strict (R145). -/
def State.deadlinePassed (s : State) : Bool := s.seq.replyDeadline < s.env.now

/-- `replyDeadline - now > T_REPLY_DELAY` (R146). -/
def State.clockRegressed (s : State) : Bool := (s.params.tReplyDelay : Int) < s.seq.replyDeadline - s.env.now

/-- The three states whose handlers examine received frames (R81, R104). -/
def examinesFrames : MasterState → Bool
  | .idle => true
  | .waitForReply => true
  | .pollForMaster => true
  | _ => false

/-- The pending valid frame. An empty `frame` register is never pending (R26). -/
def State.pendingFrame (s : State) : Option Frame := if s.rx.receivedValidFrame then s.rx.frame else none

/-- Room in `framesToSend` for one more frame (R154, D18). -/
def State.queueHasRoom (s : State) : Bool :=
  match s.params.queueCapacity with
  | none => true
  | some c => s.buf.framesToSend.length < c

/-- The types `queueFrame` accepts (R154, R302). -/
def queueableType (t : Octet) : Bool := t == typeDer || t == typeDner || t == typeTreq

end Sys2Proof.Machine
end

