-- ==== Sys2Proof/Machine/Ops.lean ====
section
/-! DEFINITION. The named operations over the state: recording and consuming a received event (the analogues of trap
entry and trap return, R182, R183), transmitting, delivering, counters, queue and control transfer. -/

namespace Sys2Proof.Machine

/-! ## Events received -/

/-- A valid frame is recorded: the flag is set and `frame` overwritten, nothing else is saved (R91, R182). -/
def State.recordValid (s : State) (f : Frame) : State :=
  { s with rx.frame := some f, rx.receivedValidFrame := true }

/-- An invalid frame is recorded: its cause alone (R178, R182). -/
def State.recordInvalid (s : State) (c : InvalidCause) : State :=
  { s with rx.receivedInvalidFrame := some c }

/-- The handler that examines the valid frame clears its flag (R183, D11). -/
def State.consumeValid (s : State) : State := { s with rx.receivedValidFrame := false }

/-- The handler that examines the invalid frame clears its cause (R183). -/
def State.consumeInvalid (s : State) : State := { s with rx.receivedInvalidFrame := none }

/-! ## Outputs -/

/-- `SendFrame(type, dest, data)`: one whole frame on the transmit stream, stamped `now`, and the silence timer restarts
(R100). -/
def State.sendFrame (s : State) (type destination : Octet) (data : List Octet) : State :=
  { s with
    env.transmitted :=
      s.env.transmitted ++ [⟨s.env.now, encodeFrame s.params.codec ⟨type, destination, s.cfg.thisStation, data⟩⟩]
    rx.lastNonSilence := s.env.now }

/-- A delivery event, stamped `now`; no register changes (R152, R153). -/
def State.deliver (s : State) (d : Delivery) : State :=
  { s with env.delivered := s.env.delivered ++ [⟨s.env.now, d⟩] }

/-- `Publish(maxMaster, maxInfoFrames)`, stamped `now` (R161). -/
def State.publish (s : State) : State :=
  { s with env.published := s.env.published ++ [⟨s.env.now, s.cfg.maxMaster.toNat, s.cfg.maxInfoFrames⟩] }

/-- A host operation completes and its caller has its result (R150, R176). -/
def State.returnTo (s : State) (op : HostOp) (r : HostResult) : State :=
  { s with env.returned := s.env.returned ++ [⟨op, r⟩] }

/-! ## Control transfer and counters -/

/-- `state <- S` (R21). -/
def State.goto (s : State) (m : MasterState) : State := { s with seq.state := m }

/-- `phase <- p` (R22). -/
def State.setPhase (s : State) (p : Phase) : State := { s with seq.phase := p }

/-- `ResetCounters()`; `frameCount` is untouched (R101). -/
def State.resetCounters (s : State) : State :=
  { s with seq.retryCount := 0, seq.tokenCount := 0, eventCount := 0 }

/-- The phase after a handler slot: IDLE_DER_TAIL stays, the last slot ends the cycle (R103). -/
def State.advance (s : State) (m : MasterState) : State :=
  match s.seq.phase with
  | .idleDerTail _ => s
  | _ =>
    match nextSlot m with
    | some m' => s.setPhase (.slot m')
    | none => s.setPhase .drain

/-! ## Polling, passing and generating the token -/

/-- `pollStation <- x; SendFrame(PFM, pollStation, [])` (R122, R125, R127, R131, R134, R141). -/
def State.pollFor (s : State) (x : Octet) : State :=
  State.sendFrame { s with seq.pollStation := x } typePfm x []

/-- `SendFrame(TOKEN, nextStation, [])` (R124, R126, R130, R136, R140). -/
def State.sendToken (s : State) : State := s.sendFrame typeToken s.seq.nextStation []

/-! ## The outbound queue -/

/-- A push at the tail, one indivisible step (R50, R154). -/
def State.pushFrame (s : State) (f : Frame) : State :=
  { s with buf.framesToSend := s.buf.framesToSend ++ [f] }

/-- The frame record a host call describes (R30, R31). -/
def State.hostFrame (s : State) (type destination : Octet) (data : List Octet) : Frame :=
  ⟨type, destination, s.cfg.thisStation, data⟩

/-- The call is held until the queue has room (R151, R154). -/
def State.holdCall (s : State) (op : HostOp) (f : Frame) : State :=
  { s with env.waiting := s.env.waiting ++ [⟨op, f⟩] }

end Sys2Proof.Machine
end

