-- ==== Sys2Proof/Machine/HostOps.lean ====
section
/-! DEFINITION. The host operations (43_host_interface.md), each one indivisible step. A `ConfigFault` leaves the block
unchanged and is returned to the caller (R176; log 9). -/

namespace Sys2Proof.Machine

/-- `raise ConfigFault(cause)` (R176). -/
def State.raiseConfigFault (s : State) (op : HostOp) (c : ConfigFault) : State := s.returnTo op (.configFault c)

/-- The push of `queueFrame`, or its wait while the queue is full (R154, D18). -/
def State.pushOrHold (s : State) (op : HostOp) (f : Frame) : State :=
  if s.queueHasRoom then (s.pushFrame f).returnTo op .ok else s.holdCall op f

/-- `queueFrame`'s checks, type first (R154, R177), and its push. `op` is the call that is answered: `setReplyFrame` takes
this path too (R155). -/
def State.enqueue (s : State) (op : HostOp) (type destination : Octet) (data : List Octet) : State :=
  if !queueableType type then s.raiseConfigFault op .frameType
  else if s.params.codec.maxData < data.length then s.raiseConfigFault op .dataLength
  else s.pushOrHold op (s.hostFrame type destination data)

/-- `queueFrame` (R154). -/
def hostQueueFrame (type destination : Octet) (data : List Octet) (s : State) : State :=
  s.enqueue (.queueFrame type destination data) type destination data

/-- `setReplyFrame`: in the slot, or re-queued, decided against `state` alone, when the call is made (R51, R155; log 27). -/
def hostSetReplyFrame (type destination : Octet) (data : List Octet) (s : State) : State :=
  let op := HostOp.setReplyFrame type destination data
  if s.params.codec.maxData < data.length then s.raiseConfigFault op .dataLength
  else if s.seq.state = .answerDataRequest then
    State.returnTo { s with buf.replyFrame := some (s.hostFrame type destination data) } op .ok
  else s.enqueue op type destination data

/-- `setMaxMaster` (R156). -/
def hostSetMaxMaster (n : Int) (s : State) : State :=
  if n < s.cfg.thisStation.toNat ∨ Config.maxMaster < n then s.raiseConfigFault (.setMaxMaster n) .maxMaster
  else State.returnTo { s with cfg.maxMaster := BitVec.ofNat 8 n.toNat } (.setMaxMaster n) .ok

/-- `setMaxInfoFrames` (R157). -/
def hostSetMaxInfoFrames (n : Int) (s : State) : State :=
  if n < 1 then s.raiseConfigFault (.setMaxInfoFrames n) .maxInfoFrames
  else State.returnTo { s with cfg.maxInfoFrames := n.toNat } (.setMaxInfoFrames n) .ok

/-- `setUsageTimeout` (R158). -/
def hostSetUsageTimeout (n : Int) (s : State) : State :=
  if n < 20 ∨ 100 < n then s.raiseConfigFault (.setUsageTimeout n) .usageTimeout
  else State.returnTo { s with cfg.usageTimeout := n.toNat } (.setUsageTimeout n) .ok

/-- `hasReceivedToken` (R159). -/
def hostHasReceivedToken (s : State) : State := s.returnTo .hasReceivedToken (.boolean s.seq.receivedToken)

/-- `terminate` (R160). -/
def hostTerminate (s : State) : State :=
  State.returnTo { s with buf.replyFrame := none, lifecycle := .terminated } .terminate .ok

/-- `initialize` (R161, R232). -/
def hostInitialize (s : State) : State :=
  if s.lifecycle ≠ .constructed then s.raiseConfigFault .initializeBlock .lifecycle
  else State.returnTo { s.publish with rx.lastNonSilence := s.env.now, lifecycle := .running } .initializeBlock .ok

/-- `Construct`: the arguments are checked, station first (R162, R177), and a new block takes the place of the old one on
the same channel, with the same parameters (R235; log 11). -/
def hostConstruct (ts rc : Int) (s : State) : State :=
  let op := HostOp.construct ts rc
  if ts < 0 ∨ Config.maxMaster < ts then s.raiseConfigFault op .stationRange
  else if rc < 0 then s.raiseConfigFault op .retryCount
  else
    State.returnTo
      (State.constructed s.params (BitVec.ofNat 8 ts.toNat) rc.toNat { s.env with waiting := [] }) op .ok

/-- A host operation (R150). -/
def runHostOp (op : HostOp) (s : State) : State :=
  match op with
  | .construct ts rc => hostConstruct ts rc s
  | .initializeBlock => hostInitialize s
  | .queueFrame type destination data => hostQueueFrame type destination data s
  | .setReplyFrame type destination data => hostSetReplyFrame type destination data s
  | .setMaxMaster n => hostSetMaxMaster n s
  | .setMaxInfoFrames n => hostSetMaxInfoFrames n s
  | .setUsageTimeout n => hostSetUsageTimeout n s
  | .hasReceivedToken => hostHasReceivedToken s
  | .terminate => hostTerminate s

/-- The `k`-th held call looks for room: with room it pushes its frame and completes, else it stays held (R154, I6).
DESIGN CHOICE (log 27), unsafe: R51 and R155 make `setReplyFrame` one step against `state`, yet give its queue path a wait;
here the call decided for the queue when it was made, and looks at no state again, so that one resumed in
ANSWER_DATA_REQUEST is still queued. -/
def State.resumeCall (s : State) (k : Nat) : State :=
  match s.env.waiting[k]? with
  | none => s
  | some w =>
    if s.queueHasRoom then
      State.returnTo (State.pushFrame { s with env.waiting := s.env.waiting.eraseIdx k } w.frame) w.op .ok
    else s

end Sys2Proof.Machine
end

