-- ==== Sys2Proof/Machine/Receiver.lean ====
section
/-! DEFINITION. The octet-stream receiver (41_receiver.md): the parser, the abort check and the drain. The functions that
take an octet answer the state and whether the octet completed a valid frame. -/

namespace Sys2Proof.Machine

/-- `ResetParser()` (R83). -/
def State.resetParser (s : State) : State :=
  { s with rx.rxState := .idle, rx.rxHeader := [], rx.rxData := [], rx.rxLen := 0 }

/-- The frame `Complete(data)` stores (R75, R91). -/
def State.parsedFrame (s : State) (data : List Octet) : Frame :=
  ⟨s.rx.rxHeader.getD 0 0, s.rx.rxHeader.getD 1 0, s.rx.rxHeader.getD 2 0, data⟩

/-- `Complete(data)` (R91). -/
def State.complete (s : State) (data : List Octet) : State := s.recordValid (s.parsedFrame data)

/-- `HeaderDone()`: the header CRC, then the length (R89, R90). -/
def State.headerDone (s : State) : State × Bool :=
  if s.rx.rxHeader.getD 5 0 ≠ headerCrc s.params.codec (s.rx.rxHeader.take 5) then
    ((s.recordInvalid .badHeaderCrc).resetParser, false)
  else
    let len := frameLength (s.rx.rxHeader.getD 3 0) (s.rx.rxHeader.getD 4 0)
    if s.params.codec.maxData < len.toNat then ((s.recordInvalid .frameTooLong).resetParser, false)
    else if len = 0 then ((s.complete []).resetParser, true)
    else ({ s with rx.rxLen := len, rx.rxData := [], rx.rxState := .data }, false)

/-- `DataDone()` (R92). -/
def State.dataDone (s : State) : State × Bool :=
  let d := s.rx.rxData.take s.rx.rxLen.toNat
  if s.rx.rxData.getD s.rx.rxLen.toNat 0 = lowOctet (dataCrc s.params.codec d) ∧
      s.rx.rxData.getD (s.rx.rxLen.toNat + 1) 0 = highOctet (dataCrc s.params.codec d) then
    ((s.complete d).resetParser, true)
  else ((s.recordInvalid .badDataCrc).resetParser, false)

/-- `ParserStep(b)`, one arm per parser state (R84 to R88). -/
def State.parserStep (s : State) (b : Octet) : State × Bool :=
  match s.rx.rxState with
  | .idle => (if b = 0x55 then { s with rx.rxState := .preamble1 } else s, false)
  | .preamble1 =>
    (if b = 0xFF then { s with rx.rxState := .preamble2 }
     else if b = 0x55 then s
     else { s with rx.rxState := .idle }, false)
  | .preamble2 => ({ s with rx.rxHeader := [b], rx.rxState := .header }, false)
  | .header =>
    let s := { s with rx.rxHeader := s.rx.rxHeader ++ [b] }
    if s.rx.rxHeader.length = 6 then s.headerDone else (s, false)
  | .data =>
    let s := { s with rx.rxData := s.rx.rxData ++ [b] }
    if s.rx.rxData.length = s.rx.rxLen.toNat + 2 then s.dataDone else (s, false)

/-- `RxOctet(b, now)`: every octet counts and restarts the silence timer, whatever the parser does with it (R82). -/
def State.rxOctet (s : State) (b : Octet) : State × Bool :=
  State.parserStep { s with eventCount := s.eventCount + 1, rx.lastNonSilence := s.env.now } b

/-- `AbortCheck(now)` (R83). -/
def State.abortCheck (s : State) : State :=
  if s.abortDue then
    match s.rx.rxState with
    | .idle => s
    | .preamble1 => s.resetParser
    | _ => (s.recordInvalid .truncated).resetParser
  else s

/-- The octets the drain reads, oldest first: it stops after the octet that completes a valid frame and leaves the rest in
the FIFO (R81). -/
def State.readOctets (s : State) : List Octet → State
  | [] => { s with env.inputFifo := [] }
  | b :: rest =>
    if (s.rxOctet b).2 then { (s.rxOctet b).1 with env.inputFifo := rest }
    else (s.rxOctet b).1.readOctets rest

/-- The drain is held off: a valid frame waits for a handler that examines it (R81). -/
def State.drainHeldOff (s : State) : Bool := s.rx.receivedValidFrame && examinesFrames s.seq.state

/-- `Drain(now)` (R81). -/
def State.drain (s : State) : State :=
  if s.abortCheck.drainHeldOff then s.abortCheck
  else s.abortCheck.readOctets s.abortCheck.env.inputFifo

end Sys2Proof.Machine
end

