-- ==== Sys2Proof/Machine/Control.lean ====
section
/-! DEFINITION. What examining a frame does (44_frame_types.md), and the meanings of the control frames TOKEN, PFM, RPFM
and RPOST. A meaning is the frame's received table: a column per examining state, a case per addressing. -/

namespace Sys2Proof.Machine

/-- A frame is examined: it is the pending valid frame, and the handler of IDLE, WAIT_FOR_REPLY or POLL_FOR_MASTER
consumes it and does what the frame's table says (R108, R115, R135, R183). In the other five states it stays pending,
unexamined (R104; log 12). -/
def State.examine (s : State) (f : Frame) (idle wait poll : Addressing → State → State) : State :=
  match s.seq.state with
  | .idle => idle (addressing f s.cfg.thisStation) (s.recordValid f).consumeValid
  | .waitForReply => wait (addressing f s.cfg.thisStation) (s.recordValid f).consumeValid
  | .pollForMaster => poll (addressing f s.cfg.thisStation) (s.recordValid f).consumeValid
  | _ => s.recordValid f

/-- The frame is consumed and nothing else changes (R108, R113, R118, R119). -/
def dropFrame (_ : Addressing) (s : State) : State := s

/-- WAIT_FOR_REPLY on a frame that is no reply: to this station it is consumed, else another station is using the bus
(R118, R119). -/
def waitOnForeignFrame (a : Addressing) (s : State) : State :=
  match a with
  | .toThis => s
  | .broadcast => s.goto .idle
  | .other => s.goto .idle

/-- POLL_FOR_MASTER on any frame but an RPFM to this station (R137). -/
def pollOnOtherFrame (_ : Addressing) (s : State) : State := s.goto .idle

/-- IDLE accepts the token (R109). -/
def State.acceptToken (s : State) : State :=
  { s with seq.receivedToken := true, seq.frameCount := 0, seq.soleMaster := false, seq.state := .useToken }

/-- POLL_FOR_MASTER takes the replier as its successor and passes it the token (R136). -/
def State.acceptSuccessor (s : State) (source : Octet) : State :=
  let s := { s with seq.soleMaster := false, seq.nextStation := source, eventCount := 0 }
  let s := s.sendToken
  let s := { s with seq.pollStation := s.cfg.thisStation }
  s.resetCounters.goto .passToken

/-- TOKEN (R220). -/
def execToken (destination source : Octet) (data : List Octet) (s : State) : Host.Outcome State Fault Refusal :=
  .next <| s.examine ⟨typeToken, destination, source, data⟩
    (idle := fun
      | .toThis, s => s.acceptToken
      | .broadcast, s => s
      | .other, s => s)
    (wait := waitOnForeignFrame)
    (poll := pollOnOtherFrame)

/-- PFM (R221). -/
def execPfm (destination source : Octet) (data : List Octet) (s : State) : Host.Outcome State Fault Refusal :=
  .next <| s.examine ⟨typePfm, destination, source, data⟩
    (idle := fun
      | .toThis, s => s.sendFrame typeRpfm source []
      | .broadcast, s => s
      | .other, s => s)
    (wait := waitOnForeignFrame)
    (poll := pollOnOtherFrame)

/-- RPFM (R222). -/
def execRpfm (destination source : Octet) (data : List Octet) (s : State) : Host.Outcome State Fault Refusal :=
  .next <| s.examine ⟨typeRpfm, destination, source, data⟩
    (idle := dropFrame)
    (wait := waitOnForeignFrame)
    (poll := fun
      | .toThis, s => s.acceptSuccessor source
      | .broadcast, s => s.goto .idle
      | .other, s => s.goto .idle)

/-- RPOST (R227). -/
def execRpost (destination source : Octet) (data : List Octet) (s : State) : Host.Outcome State Fault Refusal :=
  .next <| s.examine ⟨typeRpost, destination, source, data⟩
    (idle := dropFrame)
    (wait := fun
      | .toThis, s => s.goto .doneWithToken
      | .broadcast, s => s.goto .idle
      | .other, s => s.goto .idle)
    (poll := pollOnOtherFrame)

end Sys2Proof.Machine
end

