-- ==== Sys2Proof/Machine/Data.lean ====
section
/-! DEFINITION. The meanings of the data frames: the requests TREQ and DER, and the answers TRESP and DNER. -/

namespace Sys2Proof.Machine

/-- IDLE takes a request to this station: the delivery event, then the interleaving point IDLE_DER_TAIL (R112, R153). -/
def State.takeRequest (s : State) (f : Frame) : State :=
  (s.deliver (.needingReply f)).setPhase (.idleDerTail f.source)

/-- IDLE on a request (R108, R112, R113). -/
def idleOnRequest (f : Frame) (a : Addressing) (s : State) : State :=
  match a with
  | .toThis => s.takeRequest f
  | .broadcast => s
  | .other => s

/-- IDLE on data that needs no reply: delivered when to this station or broadcast (R111, R113). -/
def idleOnData (f : Frame) (a : Addressing) (s : State) : State :=
  match a with
  | .toThis => s.deliver (.noReply f)
  | .broadcast => s.deliver (.noReply f)
  | .other => s

/-- WAIT_FOR_REPLY on data that needs no reply: to this station it is the reply, else it is consumed (R118, R119). -/
def waitOnData (f : Frame) (a : Addressing) (s : State) : State :=
  match a with
  | .toThis => (s.deliver (.noReply f)).goto .doneWithToken
  | .broadcast => s
  | .other => s

/-- TREQ (R223). -/
def execTreq (destination source : Octet) (data : List Octet) (s : State) : Host.Outcome State Fault Refusal :=
  .next <| s.examine ⟨typeTreq, destination, source, data⟩
    (idle := idleOnRequest ⟨typeTreq, destination, source, data⟩)
    (wait := waitOnForeignFrame)
    (poll := pollOnOtherFrame)

/-- TRESP (R224). -/
def execTresp (destination source : Octet) (data : List Octet) (s : State) : Host.Outcome State Fault Refusal :=
  .next <| s.examine ⟨typeTresp, destination, source, data⟩
    (idle := idleOnData ⟨typeTresp, destination, source, data⟩)
    (wait := waitOnData ⟨typeTresp, destination, source, data⟩)
    (poll := pollOnOtherFrame)

/-- DER (R225). -/
def execDer (destination source : Octet) (data : List Octet) (s : State) : Host.Outcome State Fault Refusal :=
  .next <| s.examine ⟨typeDer, destination, source, data⟩
    (idle := idleOnRequest ⟨typeDer, destination, source, data⟩)
    (wait := waitOnForeignFrame)
    (poll := pollOnOtherFrame)

/-- DNER (R226). -/
def execDner (destination source : Octet) (data : List Octet) (s : State) : Host.Outcome State Fault Refusal :=
  .next <| s.examine ⟨typeDner, destination, source, data⟩
    (idle := idleOnData ⟨typeDner, destination, source, data⟩)
    (wait := waitOnData ⟨typeDner, destination, source, data⟩)
    (poll := pollOnOtherFrame)

end Sys2Proof.Machine
end

