-- ==== Sys2Proof/Machine/Unknown.lean ====
section
/-! DEFINITION. The meanings of the frames of unknown type, 0x08 to 0xFF (R228): valid frames that every handler
consumes. The raw type octet is kept in `frame` and read by no rule (D32). -/

namespace Sys2Proof.Machine

/-- A frame of unknown type is examined (R108, R118, R119, R137, R228). -/
def State.examineUnknown (s : State) (f : Frame) : State :=
  s.examine f (idle := dropFrame) (wait := waitOnForeignFrame) (poll := pollOnOtherFrame)

/-- UNKNOWN_08_0F (R228). -/
def execUnknown08 (low : BitVec 3) (destination source : Octet) (data : List Octet) (s : State) :
    Host.Outcome State Fault Refusal :=
  .next (s.examineUnknown ⟨0b00001#5 ++ low, destination, source, data⟩)

/-- UNKNOWN_10_1F (R228). -/
def execUnknown10 (low : BitVec 4) (destination source : Octet) (data : List Octet) (s : State) :
    Host.Outcome State Fault Refusal :=
  .next (s.examineUnknown ⟨0b0001#4 ++ low, destination, source, data⟩)

/-- UNKNOWN_20_3F (R228). -/
def execUnknown20 (low : BitVec 5) (destination source : Octet) (data : List Octet) (s : State) :
    Host.Outcome State Fault Refusal :=
  .next (s.examineUnknown ⟨0b001#3 ++ low, destination, source, data⟩)

/-- UNKNOWN_40_7F (R228). -/
def execUnknown40 (low : BitVec 6) (destination source : Octet) (data : List Octet) (s : State) :
    Host.Outcome State Fault Refusal :=
  .next (s.examineUnknown ⟨0b01#2 ++ low, destination, source, data⟩)

/-- UNKNOWN_80_FF (R228). -/
def execUnknown80 (low : BitVec 7) (destination source : Octet) (data : List Octet) (s : State) :
    Host.Outcome State Fault Refusal :=
  .next (s.examineUnknown ⟨0b1#1 ++ low, destination, source, data⟩)

end Sys2Proof.Machine
end

