-- ==== Sys2Proof/Machine/Dispatch.lean ====
section
/-! DEFINITION. One arm per frame type. -/

namespace Sys2Proof.Machine

def exec (i : Instr) (s : State) : Host.Outcome State Fault Refusal :=
  match i with
  | .token d r x => Sys2Proof.Machine.execToken d r x s
  | .pfm d r x => Sys2Proof.Machine.execPfm d r x s
  | .rpfm d r x => Sys2Proof.Machine.execRpfm d r x s
  | .treq d r x => Sys2Proof.Machine.execTreq d r x s
  | .tresp d r x => Sys2Proof.Machine.execTresp d r x s
  | .der d r x => Sys2Proof.Machine.execDer d r x s
  | .dner d r x => Sys2Proof.Machine.execDner d r x s
  | .rpost d r x => Sys2Proof.Machine.execRpost d r x s
  | .unknown08 low d r x => Sys2Proof.Machine.execUnknown08 low d r x s
  | .unknown10 low d r x => Sys2Proof.Machine.execUnknown10 low d r x s
  | .unknown20 low d r x => Sys2Proof.Machine.execUnknown20 low d r x s
  | .unknown40 low d r x => Sys2Proof.Machine.execUnknown40 low d r x s
  | .unknown80 low d r x => Sys2Proof.Machine.execUnknown80 low d r x s

end Sys2Proof.Machine
end

