-- ==== Sys2Proof/Machine/Sequencer.lean ====
section
/-! DEFINITION. The master-state sequencer (42_master_sequencer.md): the eight handlers, branches in the document's order
(R102). Where a handler examines the pending frame it runs that frame's meaning. -/

namespace Sys2Proof.Machine

/-- The continuation runs on a next state; a fault or a refusal stands. -/
def thenNext (o : Host.Outcome State Fault Refusal) (k : State → State) : Host.Outcome State Fault Refusal :=
  match o with
  | .next s => .next (k s)
  | .fault r => .fault r
  | .refused r => .refused r

/-- IDLE (R105 to R113). -/
def handleIdle (s : State) : Host.Outcome State Fault Refusal :=
  if s.tokenLost then .next (s.goto .noToken)
  else if s.rx.receivedInvalidFrame.isSome then .next s.consumeInvalid
  else
    match s.pendingFrame with
    | some f => exec (Instr.ofFrame f) s
    | none => .next s

/-- Where USE_TOKEN goes after transmitting a queued frame of this type; `none` is the unreachable arm (R114). -/
def afterQueuedFrame (t : Octet) : Option MasterState :=
  if t = typeDner ∨ t = typeTresp then some .doneWithToken
  else if t = typeDer ∨ t = typeTreq then some .waitForReply
  else none

/-- The possession is over: `frameCount <- maxInfoFrames; state <- DONE_WITH_TOKEN` (R114, R116). -/
def State.endPossession (s : State) : State :=
  { s with seq.frameCount := s.cfg.maxInfoFrames, seq.state := .doneWithToken }

/-- USE_TOKEN (R114). -/
def handleUseToken (s : State) : Host.Outcome State Fault Refusal :=
  match s.buf.framesToSend with
  | [] => .next s.endPossession
  | q :: rest =>
    let sent := State.sendFrame { s with buf.framesToSend := rest } q.type q.destination q.data
    match afterQueuedFrame q.type with
    | some m => .next { sent with seq.state := m, seq.frameCount := s.seq.frameCount + 1 }
    | none => .fault (.unreachableQueueType q.type)

/-- WAIT_FOR_REPLY (R115 to R119). -/
def handleWaitForReply (s : State) : Host.Outcome State Fault Refusal :=
  if s.replyTimedOut then .next s.endPossession
  else if s.rx.receivedInvalidFrame.isSome then .next (s.consumeInvalid.goto .doneWithToken)
  else
    match s.pendingFrame with
    | some f => exec (Instr.ofFrame f) s
    | none => .next s

/-- DONE_WITH_TOKEN b2: no known successor and not sole master (R122). -/
def State.pollFirst (s : State) : State :=
  let s := s.pollFor (s.adjacent s.cfg.thisStation)
  { s with seq.retryCount := 0, seq.state := .pollForMaster }

/-- DONE_WITH_TOKEN b3: a sole master keeps the token (R123). -/
def State.keepToken (s : State) : State :=
  { s with seq.frameCount := 0, seq.tokenCount := s.seq.tokenCount + 1, seq.state := .useToken }

/-- DONE_WITH_TOKEN b4: pass the token (R124). -/
def State.passToken (s : State) : State :=
  let s := State.sendToken { s with seq.tokenCount := s.seq.tokenCount + 1 }
  { s with seq.retryCount := 0, eventCount := 0, seq.state := .passToken }

/-- DONE_WITH_TOKEN b5: maintenance poll of the next address in the gap (R125). -/
def State.pollGap (s : State) : State :=
  let s := s.pollFor (s.adjacent s.seq.pollStation)
  { s with seq.retryCount := 0, seq.state := .pollForMaster }

/-- DONE_WITH_TOKEN b6: gap exhausted, with a successor (R126). -/
def State.endGap (s : State) : State :=
  let s := State.sendToken { s with seq.pollStation := s.cfg.thisStation }
  let s := s.resetCounters
  { s with seq.tokenCount := 1, seq.state := .passToken }

/-- DONE_WITH_TOKEN b7: gap exhausted, sole master (R127). -/
def State.endGapAsSoleMaster (s : State) : State :=
  let s := s.pollFor (s.adjacent s.seq.nextStation)
  let s := { s with seq.nextStation := s.cfg.thisStation }
  let s := s.resetCounters
  { s with seq.tokenCount := 1, seq.state := .pollForMaster }

/-- DONE_WITH_TOKEN, in the order the document requires (R120 to R127). -/
def handleDoneWithToken (s : State) : Host.Outcome State Fault Refusal :=
  if s.seq.frameCount < s.cfg.maxInfoFrames then .next (s.goto .useToken)
  else if !s.seq.soleMaster && s.seq.nextStation == s.cfg.thisStation then .next s.pollFirst
  else if s.withinPollInterval && s.seq.soleMaster then .next s.keepToken
  else if (s.withinPollInterval && !s.seq.soleMaster) || s.seq.nextStation == s.adjacent s.cfg.thisStation then
    .next s.passToken
  else if !s.withinPollInterval && s.adjacent s.seq.pollStation != s.seq.nextStation then .next s.pollGap
  else if !s.withinPollInterval && s.adjacent s.seq.pollStation == s.seq.nextStation && !s.seq.soleMaster then
    .next s.endGap
  else .next s.endGapAsSoleMaster

/-- PASS_TOKEN's retry (R130). -/
def State.retryToken (s : State) : State :=
  let s := State.sendToken { s with seq.retryCount := s.seq.retryCount + 1 }
  { s with eventCount := 0 }

/-- PASS_TOKEN finds a new successor (R131). -/
def State.findSuccessor (s : State) : State :=
  let s := s.pollFor (s.adjacent s.seq.nextStation)
  let s := { s with seq.nextStation := s.cfg.thisStation }
  s.resetCounters.goto .pollForMaster

/-- PASS_TOKEN (R128 to R131). -/
def handlePassToken (s : State) : Host.Outcome State Fault Refusal :=
  if !s.usageTimedOut && s.activitySeen then .next (s.goto .idle)
  else if s.usageTimedOut && s.seq.retryCount < s.params.nRetryToken then .next s.retryToken
  else if s.usageTimedOut && s.params.nRetryToken ≤ s.seq.retryCount then .next s.findSuccessor
  else .next s

/-- `GenerateToken()` (R134). -/
def State.generateToken (s : State) : State :=
  let s := s.pollFor (s.adjacent s.cfg.thisStation)
  let s := { s with seq.nextStation := s.cfg.thisStation }
  s.resetCounters.goto .pollForMaster

/-- NO_TOKEN (R132 to R134). -/
def handleNoToken (s : State) : Host.Outcome State Fault Refusal :=
  if s.silence < s.noTokenDelay && s.activitySeen then .next (s.goto .idle)
  else if s.mayGenerateToken then .next s.generateToken
  else .next s

/-- POLL_FOR_MASTER b2: a maintenance poll unanswered, with a successor known (R140). -/
def State.passAfterPoll (s : State) : State :=
  let s := State.sendToken { s with eventCount := 0 }
  { s with seq.retryCount := 0, seq.state := .passToken }

/-- POLL_FOR_MASTER b3: keep polling; the state stays (R141). -/
def State.pollNext (s : State) : State :=
  let s := s.pollFor (s.adjacent s.seq.pollStation)
  { s with seq.retryCount := 0 }

/-- POLL_FOR_MASTER b4: this station declares itself sole master (R142). -/
def State.declareSoleMaster (s : State) : State :=
  { s with seq.receivedToken := true, seq.soleMaster := true, seq.frameCount := 0, seq.state := .useToken }

/-- POLL_FOR_MASTER's four branches under the long condition, the invalid frame consumed (R138 to R142). -/
def State.endPoll (s : State) : State :=
  if s.seq.soleMaster then { s with seq.frameCount := 0, seq.state := .useToken }
  else if s.seq.nextStation != s.cfg.thisStation then s.passAfterPoll
  else if s.adjacent s.seq.pollStation != s.cfg.thisStation then s.pollNext
  else s.declareSoleMaster

/-- POLL_FOR_MASTER (R135 to R142). -/
def handlePollForMaster (s : State) : Host.Outcome State Fault Refusal :=
  match s.pendingFrame with
  | some f => exec (Instr.ofFrame f) s
  | none => if s.longCondition then .next s.consumeInvalid.endPoll else .next s

/-- ANSWER_DATA_REQUEST, one indivisible step under mutual exclusion B (R143 to R147). -/
def handleAnswerDataRequest (s : State) : Host.Outcome State Fault Refusal :=
  match s.buf.replyFrame with
  | some r =>
    let s := s.sendFrame r.type r.destination r.data
    .next (State.goto { s with buf.replyFrame := none } .idle)
  | none =>
    if s.deadlinePassed then .next ((s.sendFrame typeRpost s.seq.answerSource []).goto .idle)
    else if s.clockRegressed then .next { s with seq.replyDeadline := s.env.now + s.params.tReplyDelay }
    else .next s

/-- The handler of each state (R103). -/
def handler (m : MasterState) (s : State) : Host.Outcome State Fault Refusal :=
  match m with
  | .idle => handleIdle s
  | .useToken => handleUseToken s
  | .waitForReply => handleWaitForReply s
  | .doneWithToken => handleDoneWithToken s
  | .passToken => handlePassToken s
  | .noToken => handleNoToken s
  | .pollForMaster => handlePollForMaster s
  | .answerDataRequest => handleAnswerDataRequest s

/-- `IdleDerTail(now)` and the phase after it (R103, R112). -/
def State.idleDerTail (s : State) (pendingSource : Octet) : State :=
  { s with
    seq.replyDeadline := s.rx.lastNonSilence + s.params.tReplyDelay
    seq.answerSource := pendingSource
    seq.state := .answerDataRequest
    seq.phase := .slot .useToken }

/-- `WorkerStep(now)`: one micro-step (R103). The drain is enabled only in RUNNING; a disabled micro-step does not happen
(log 16). -/
def workerStep (s : State) : Host.Outcome State Fault Refusal :=
  match s.seq.phase with
  | .drain => if s.lifecycle = .running then .next (s.drain.setPhase (.slot .idle)) else .next s
  | .slot m => if s.seq.state = m then thenNext (handler m s) (fun s' => s'.advance m) else .next (s.advance m)
  | .idleDerTail pendingSource => .next (s.idleDerTail pendingSource)

end Sys2Proof.Machine
end

