-- ==== Sys2Proof/Machine/Worker.lean ====
section
/-! DEFINITION. The one total order of steps (R55): the next event, what each event does, and how a table word is placed
where the next step examines it. -/

namespace Sys2Proof.Machine

/-- Octets are appended to the input FIFO (R33). -/
def State.receiveOctets (s : State) (octets : List Octet) : State :=
  { s with env.inputFifo := s.env.inputFifo ++ octets }

/-- The time input of the step (R5). -/
def State.atTime (s : State) (now : Int) : State := { s with env.now := now }

/-- What one event does (R49, R52). -/
def runEvent (e : Event) (s : State) : Host.Outcome State Fault Refusal :=
  match e with
  | .worker now => workerStep (s.atTime now)
  | .host op now => .next (runHostOp op (s.atTime now))
  | .receive octets => .next (s.receiveOctets octets)
  | .resume k => .next (s.resumeCall k)

/-- The event that comes next: the schedule's first, or past its end the environment's free choice (log 6). DESIGN CHOICE
(log 28), unsafe on a bus: the free choice is one for every block, so that blocks past their schedules with equal counters
get the same event. -/
def State.nextEvent (s : State) : Event :=
  match s.env.schedule with
  | e :: _ => e
  | [] => Config.environmentEvent s.env.environmentIndex

/-- The state with that event taken. -/
def State.takeEvent (s : State) : State :=
  match s.env.schedule with
  | _ :: rest => { s with env.schedule := rest }
  | [] => { s with env.environmentIndex := s.env.environmentIndex + 1 }

/-- The examining state in which a placed frame is examined: the current one if it examines frames, else IDLE (R104). -/
def examiningState (m : MasterState) : MasterState := if examinesFrames m then m else .idle

/-- The frame `i` is pending, the worker is at the slot that examines it, and the worker's micro-step comes next, at the
time of the last wire event, so that no timeout comes before the frame (R105, R115, R135; log 14). -/
def State.placeInstr (s : State) (i : Instr) : State :=
  { s with
    rx.frame := some i.toFrame
    rx.receivedValidFrame := true
    rx.receivedInvalidFrame := none
    seq.state := examiningState s.seq.state
    seq.phase := .slot (examiningState s.seq.state)
    env.schedule := .worker s.rx.lastNonSilence :: s.env.schedule }

/-- The octets of a table word are parsed and the frame is placed; octets that are no valid frame place nothing. -/
def State.placeWord (s : State) (nbits w : Nat) : State :=
  match decodeWord s.params.codec nbits w with
  | some i => s.placeInstr i
  | none => s

end Sys2Proof.Machine
end

