-- ==== Sys2Proof/Machine/Bus.lean ====
section
/-! DEFINITION. A bus of several blocks (R193; log 19, log 28): each block's transmissions are appended to the input FIFO of every
other block, and not to its own. -/

namespace Sys2Proof.Machine

/-- The octets a step of a block put on the bus, in order: those of the transmissions its stream gained (R34, R193). -/
def octetsSent (before after : State) : List Octet :=
  ((after.env.transmitted.drop before.env.transmitted.length).map fun x => x.octets).flatten

/-- Node `k` takes one step, and every other node receives what it sent (R94, R193). A bus without a node `k` stays. DESIGN
CHOICE (log 28), unsafe: the events of each node stand in its own schedule, independent of the others', but past their ends
all nodes draw from the one `Config.environmentEvent`, each by its own counter. -/
def busStep (nodes : List State) (k : Nat) : Host.Outcome (List State) Fault Refusal :=
  match nodes[k]? with
  | none => .next nodes
  | some s =>
    match step s with
    | .next s' =>
      .next (nodes.mapIdx fun j n => if j = k then s' else n.receiveOctets (octetsSent s s'))
    | .fault r => .fault r
    | .refused r => .refused r

end Sys2Proof.Machine
end

