-- ==== Sys2Proof/Machine/Reference.lean ====
section
/-! DEFINITION. The received-frame branches as 42_master_sequencer.md writes them, state by state over the raw frame
record. The meanings follow 44_frame_types.md type by type; that the two readings agree is a statement. -/

namespace Sys2Proof.Machine

/-- IDLE's branches on a consumed frame `f`, in the order of R105 (R108 to R113). -/
def idleFrameBranch (f : Frame) (s : State) : State :=
  if !knownType f.type then s
  else if broadcast f && (f.type == typeToken || f.type == typeDer || f.type == typeTreq) then s
  else if forStation f s.cfg.thisStation && f.type == typeToken then
    { s with seq.receivedToken := true, seq.frameCount := 0, seq.soleMaster := false, seq.state := .useToken }
  else if forStation f s.cfg.thisStation && f.type == typePfm then s.sendFrame typeRpfm f.source []
  else if forStationOrBroadcast f s.cfg.thisStation && (f.type == typeDner || f.type == typeTresp) then
    s.deliver (.noReply f)
  else if forStation f s.cfg.thisStation && (f.type == typeDer || f.type == typeTreq) then
    (s.deliver (.needingReply f)).setPhase (.idleDerTail f.source)
  else s

/-- WAIT_FOR_REPLY's branches on a consumed frame `f` (R115, R118, R119). -/
def waitFrameBranch (f : Frame) (s : State) : State :=
  if forStation f s.cfg.thisStation then
    if knownType f.type && (f.type == typeDner || f.type == typeTresp) then
      (s.deliver (.noReply f)).goto .doneWithToken
    else if f.type == typeRpost then s.goto .doneWithToken
    else s
  else if !(knownType f.type && (f.type == typeDner || f.type == typeTresp)) then s.goto .idle
  else s

/-- POLL_FOR_MASTER's branches on a consumed frame `f` (R135, R136, R137). -/
def pollFrameBranch (f : Frame) (s : State) : State :=
  if forStation f s.cfg.thisStation && f.type == typeRpfm then
    let s := { s with seq.soleMaster := false, seq.nextStation := f.source, eventCount := 0 }
    let s := s.sendFrame typeToken s.seq.nextStation []
    let s := { s with seq.pollStation := s.cfg.thisStation }
    s.resetCounters.goto .passToken
  else s.goto .idle

/-- The frame branch of the current state; a state that examines no frame leaves it pending (R104). -/
def frameBranch (f : Frame) (s : State) : State :=
  match s.seq.state with
  | .idle => idleFrameBranch f (s.recordValid f).consumeValid
  | .waitForReply => waitFrameBranch f (s.recordValid f).consumeValid
  | .pollForMaster => pollFrameBranch f (s.recordValid f).consumeValid
  | _ => s.recordValid f

end Sys2Proof.Machine
end

