-- ==== Sys2Proof/Safety.lean ====
section
/-! DEFINITION. What a well-formed state is (R35's guaranteed invariants, the legal values of each register, the shape of
the parser's registers), and the terms the statements use. -/

namespace Sys2Proof.Machine

/-- The configuration registers hold legal values (R8 to R11, R35). -/
abbrev State.ConfigOk (s : State) : Prop :=
  s.cfg.thisStation.toNat ≤ s.cfg.maxMaster.toNat ∧ s.cfg.maxMaster.toNat ≤ Config.maxMaster ∧
  1 ≤ s.cfg.maxInfoFrames ∧ 20 ≤ s.cfg.usageTimeout ∧ s.cfg.usageTimeout ≤ 100

/-- A frame `queueFrame` may have pushed (R30). -/
abbrev QueuedFrameOk (k : Config.Codec) (ts : Octet) (f : Frame) : Prop :=
  queueableType f.type = true ∧ f.WellFormed k ∧ f.source = ts

/-- The outbound queue, its capacity, and the calls held on it (R30, R154). -/
abbrev State.QueueOk (s : State) : Prop :=
  (∀ f ∈ s.buf.framesToSend, QueuedFrameOk s.params.codec s.cfg.thisStation f) ∧
  (∀ w ∈ s.env.waiting, QueuedFrameOk s.params.codec s.cfg.thisStation w.frame) ∧
  s.buf.framesToSend.length ≤ s.params.queueCapacity.getD s.buf.framesToSend.length

/-- The reply slot is filled only while ANSWER_DATA_REQUEST waits, with a frame the wire can carry (R31, R155). -/
abbrev State.ReplyOk (s : State) : Prop :=
  (s.buf.replyFrame.isSome = true → s.seq.state = .answerDataRequest) ∧
  (s.buf.replyFrame.all fun r => decide (r.WellFormed s.params.codec ∧ r.source = s.cfg.thisStation)) = true

/-- The `frame` register holds a frame whenever one is pending, of at most `MAX_DATA` data octets (R26). -/
abbrev State.FrameOk (s : State) : Prop :=
  (s.rx.receivedValidFrame = true → s.rx.frame.isSome = true) ∧
  (s.rx.frame.all fun f => decide (f.WellFormed s.params.codec)) = true

/-- The parser's working registers have the shape of its state (R29, R84 to R90). -/
abbrev ReceiverRegs.ParserOk (rx : ReceiverRegs) (k : Config.Codec) : Prop :=
  (rx.rxState = .idle ∨ rx.rxState = .preamble1 ∨ rx.rxState = .preamble2 →
    rx.rxHeader = [] ∧ rx.rxData = [] ∧ rx.rxLen = 0) ∧
  (rx.rxState = .header →
    1 ≤ rx.rxHeader.length ∧ rx.rxHeader.length ≤ 5 ∧ rx.rxData = [] ∧ rx.rxLen = 0) ∧
  (rx.rxState = .data →
    rx.rxHeader.length = 6 ∧ rx.rxHeader.getD 5 0 = headerCrc k (rx.rxHeader.take 5) ∧
    rx.rxLen = frameLength (rx.rxHeader.getD 3 0) (rx.rxHeader.getD 4 0) ∧
    1 ≤ rx.rxLen.toNat ∧ rx.rxLen.toNat ≤ k.maxData ∧ rx.rxData.length < rx.rxLen.toNat + 2)

/-- The states in which this node owns the token (R35). -/
def ownsToken : MasterState → Bool
  | .useToken => true
  | .waitForReply => true
  | .doneWithToken => true
  | _ => false

/-- A node that owns the token, or is sole master, has received one; a sole master knows no successor but itself (R14,
R15, R142). -/
abbrev State.TokenOk (s : State) : Prop :=
  (ownsToken s.seq.state = true → s.seq.receivedToken = true) ∧
  (s.seq.soleMaster = true → s.seq.receivedToken = true ∧ s.seq.nextStation = s.cfg.thisStation)

/-- The phase is IDLE_DER_TAIL (R112). -/
def inTail : Phase → Bool
  | .idleDerTail _ => true
  | _ => false

/-- IDLE_DER_TAIL stands only in IDLE, and before `initialize` no cycle has started (R103, R112, R231). -/
abbrev State.PhaseOk (s : State) : Prop :=
  (inTail s.seq.phase = true → s.seq.state = .idle) ∧
  (s.lifecycle = .constructed → s.seq.phase = .drain ∧ s.seq.state = .idle)

/-- A well-formed state. -/
abbrev State.Wf (s : State) : Prop :=
  s.params.WellFormed ∧ s.ConfigOk ∧ s.QueueOk ∧ s.ReplyOk ∧ s.FrameOk ∧ s.rx.ParserOk s.params.codec ∧ s.TokenOk ∧ s.PhaseOk

/-- The frame budget of a possession (R18, C12). -/
abbrev State.BudgetOk (s : State) : Prop :=
  s.seq.frameCount ≤ s.cfg.maxInfoFrames ∧
  (s.seq.state = .useToken → s.seq.frameCount < s.cfg.maxInfoFrames)

/-- The event is a call of `Construct`, which makes a new block (R162, R235). -/
def isConstruct : Event → Bool
  | .host (.construct _ _) _ => true
  | _ => false

/-- The event is a call of `setMaxInfoFrames` (R157). -/
def isSetMaxInfoFrames : Event → Bool
  | .host (.setMaxInfoFrames _) _ => true
  | _ => false

/-- The worker's micro-step at time `now` comes next, at the slot of the current state, with `rest` to follow. -/
abbrev State.AtSlot (s : State) (now : Int) (rest : List Event) : Prop :=
  s.env.schedule = .worker now :: rest ∧ s.seq.phase = .slot s.seq.state

/-- The state a scheduled worker micro-step starts from: its time input is `now` and the event is taken. -/
def State.started (s : State) (now : Int) (rest : List Event) : State :=
  { s with env.now := now, env.schedule := rest }

/-- The handler of the current state reaches its received-frame branch (R105, R115, R135, R184). -/
def State.examinesNow (s : State) : Bool :=
  match s.seq.state with
  | .idle => !s.tokenLost && s.rx.receivedInvalidFrame.isNone
  | .waitForReply => !s.replyTimedOut && s.rx.receivedInvalidFrame.isNone
  | .pollForMaster => true
  | _ => false

/-- How many worker micro-steps stand between a phase and the end of the cycle (R103). -/
def microStepsLeft : Phase → Nat
  | .drain => 0
  | .slot .idle => 9
  | .idleDerTail _ => 8
  | .slot .useToken => 7
  | .slot .waitForReply => 6
  | .slot .doneWithToken => 5
  | .slot .passToken => 4
  | .slot .noToken => 3
  | .slot .pollForMaster => 2
  | .slot .answerDataRequest => 1

/-- The transmit stream after `SendFrame(type, dest, data)` (R100). -/
def State.transmittedWith (s : State) (type destination : Octet) (data : List Octet) : List Transmission :=
  s.env.transmitted ++ [⟨s.env.now, encodeFrame s.params.codec ⟨type, destination, s.cfg.thisStation, data⟩⟩]

/-- The receiver registers once the frame `f` is in the register and consumed (R108, R183). -/
def State.consumed (s : State) (f : Frame) : ReceiverRegs :=
  { s.rx with frame := some f, receivedValidFrame := false }

/-- The receiver registers after octets were read that leave the parser idle (R82, R83). -/
def State.rxAfter (s : State) : ReceiverRegs :=
  { s.rx with lastNonSilence := s.env.now, rxState := .idle, rxHeader := [], rxData := [], rxLen := 0 }

/-- The two preamble octets, a header and its CRC octet (R58). -/
def headerOnWire (header : List Octet) (crc : Octet) : List Octet := [0x55, 0xFF] ++ header ++ [crc]

/-- R63's bitwise form of the header CRC step. -/
def hdrCrcBitwise (d c : Octet) : Octet :=
  Nat.iterate (fun c : Octet => if c.getLsbD 0 then (c >>> 1) ^^^ 0x81 else c >>> 1) 8 (c ^^^ d)

/-- R64's bitwise form of the data CRC step. -/
def dataCrcBitwise (d : Octet) (c : Word16) : Word16 :=
  Nat.iterate (fun c : Word16 => if c.getLsbD 0 then (c >>> 1) ^^^ 0x8408 else c >>> 1) 8 (c ^^^ d.setWidth 16)

end Sys2Proof.Machine
end

