-- ==== Sys2Proof/Certificates/Slice0/Obligations.lean ====
section
/-! DEFINITION. The statements for the provers. -/

open Sys2Proof Sys2Proof.Machine

/-! ## Codec -/

/-- R62, R75: for all codec parameters (R3, R4), decoding the encoding of a well-formed instruction gives it back, with the
octets that follow. -/
def Obligations.DecodeReadsBackEncode : Prop :=
  ∀ (k : Config.Codec) (i : Instr) (rest : List Octet),
    k.WellFormed → i.WellFormed k → decode k (encode k i ++ rest) = .ok (i, rest)

/-- R58, R59, R70, R72: for all codec parameters, the decoder accepts nothing but encodings of well-formed instructions. -/
def Obligations.DecodeAcceptsOnlyEncodings : Prop :=
  ∀ (k : Config.Codec) (octets rest : List Octet) (i : Instr),
    decode k octets = .ok (i, rest) → i.WellFormed k ∧ octets = encode k i ++ rest

/-- R57, R61: every type octet matches exactly one row of the opcode table, the row of the instruction it decodes to, and
no bit of the frame record is lost. -/
def Obligations.EveryTypeNamesOneRow : Prop :=
  ∀ f : Frame,
    (opcodeTable.filter fun row => row.matchesType f.type).map (fun row => row.mnemonic) =
        [(Instr.ofFrame f).mnemonic] ∧
      (Instr.ofFrame f).toFrame = f

/-- R63, R64 (the spec's defaults from general knowledge, log 5): each default CRC step function equals its bitwise form,
and is the step function of the default parameters. -/
def Obligations.CrcStepsEqualBitwiseForms : Prop :=
  (∀ d c : Octet, hdrCrcStep Config.defaultCodec d c = hdrCrcBitwise d c) ∧
  (∀ (d : Octet) (c : Word16), dataCrcStep Config.defaultCodec d c = dataCrcBitwise d c)

/-- R70, R72 (inferences of the spec, about the default functions, log 5): a header is good exactly when the register over it
and its CRC octet leaves 0x55, and data is good exactly when the register over it and its two CRC octets leaves 0xF0B8. -/
def Obligations.CrcResiduesCharacteriseGoodFrames : Prop :=
  let k := Config.defaultCodec
  (∀ (header : List Octet) (crc : Octet), crc = headerCrc k header ↔ hdrCrcRegister k (header ++ [crc]) = 0x55) ∧
  (∀ (data : List Octet) (lo hi : Octet),
    (lo = lowOctet (dataCrc k data) ∧ hi = highOctet (dataCrc k data)) ↔
      dataCrcRegister k (data ++ [lo, hi]) = 0xF0B8)

/-- R58's layout with the default CRC functions, which the spec takes from general knowledge (log 5): words written out from
the spec's vectors decode to the instructions they stand for. -/
def Obligations.WrittenWordsDecode : Prop :=
  let k := Config.defaultCodec
  decode k [0x55, 0xFF, 0x00, 0x02, 0x01, 0x00, 0x00, 0x73] = .ok (.token 0x02 0x01 [], []) ∧
  decode k [0x55, 0xFF, 0x05, 0x02, 0x01, 0x00, 0x03, 0xEA, 0x01, 0x22, 0x30, 0x10, 0xBD] =
    .ok (.der 0x02 0x01 [0x01, 0x22, 0x30], []) ∧
  decode k [0x55, 0xFF, 0x20, 0x01, 0x02, 0x00, 0x00, 0xB0] = .ok (.unknown20 0 0x01 0x02 [], [])

/-! ## Receiver -/

/-- R81, R82, R84 to R93: with the parser idle or at a 0x55, and no frame pending or a state that examines none (R93's
overwrite), a drain reads exactly the octets of a well-formed frame at the head of the FIFO and any number of 0x55 before it,
records that frame, and leaves the octets after it. The same when those octets come in two pieces, at two drains less than
`T_FRAME_ABORT` apart, wherever the cut is. -/
def Obligations.DrainReceivesEncodedFrame : Prop :=
  ∀ (s : State) (i : Instr) (n : Nat) (rest : List Octet),
    let wire := List.replicate n 0x55 ++ encode s.params.codec i
    s.params.codec.WellFormed → i.WellFormed s.params.codec → s.rx.rxState ∈ [RxState.idle, .preamble1] →
    (s.rx.receivedValidFrame = false ∨
      s.seq.state ∈ [MasterState.useToken, .doneWithToken, .passToken, .noToken, .answerDataRequest]) →
    (s.env.inputFifo = wire ++ rest →
      s.drain =
        { s with
          eventCount := s.eventCount + wire.length
          rx := { s.rxAfter with frame := some i.toFrame, receivedValidFrame := true }
          env := { s.env with inputFifo := rest } }) ∧
    (∀ (first second : List Octet) (later : Int),
      wire = first ++ second → second ≠ [] → s.env.inputFifo = first → later - s.env.now < s.params.tFrameAbort →
      s.drain.env.inputFifo = [] ∧ s.drain.rx.receivedValidFrame = s.rx.receivedValidFrame ∧
      State.drain { s.drain with env := { s.drain.env with now := later, inputFifo := second ++ rest } } =
        { s with
          eventCount := s.eventCount + wire.length
          rx := { s.rxAfter with lastNonSilence := later, frame := some i.toFrame, receivedValidFrame := true }
          env := { s.env with now := later, inputFifo := rest } })

/-- R81, R82, R93: the drain reads a prefix of the FIFO and leaves the rest in order; every octet read counts and restarts
the silence timer; it reads nothing while a pending frame waits in IDLE, WAIT_FOR_REPLY or POLL_FOR_MASTER, and reads on
otherwise; and it leaves octets only behind a valid frame. -/
def Obligations.DrainReadsPrefix : Prop :=
  ∀ s : State, ∃ taken : List Octet,
    s.env.inputFifo = taken ++ s.drain.env.inputFifo ∧
    s.drain.eventCount = s.eventCount + taken.length ∧
    s.drain.rx.lastNonSilence = (if taken = [] then s.rx.lastNonSilence else s.env.now) ∧
    (s.rx.receivedValidFrame = true → s.seq.state ∈ [MasterState.idle, .waitForReply, .pollForMaster] → taken = []) ∧
    ((s.rx.receivedValidFrame = false ∨
        s.seq.state ∈ [MasterState.useToken, .doneWithToken, .passToken, .noToken, .answerDataRequest]) →
      s.env.inputFifo ≠ [] → taken ≠ []) ∧
    (s.drain.env.inputFifo ≠ [] → s.drain.rx.receivedValidFrame = true)

/-- R93: the drain clears neither indication, and writes `frame` only with the valid-frame flag set. -/
def Obligations.IndicationsAreIndependent : Prop :=
  ∀ s : State,
    (s.rx.receivedValidFrame = true → s.drain.rx.receivedValidFrame = true) ∧
    (s.rx.receivedInvalidFrame.isSome = true → s.drain.rx.receivedInvalidFrame.isSome = true) ∧
    (s.drain.rx.frame ≠ s.rx.frame → s.drain.rx.receivedValidFrame = true)

/-- R89, R90: a header with a bad CRC, or with a good CRC and a length above `MAX_DATA`, costs its eight octets, records its cause
and nothing else, and the following octets are scanned from the idle parser. -/
def Obligations.BadHeaderRestartsParser : Prop :=
  ∀ (s : State) (type destination source lenHi lenLo crc : Octet) (rest : List Octet),
    s.rx.rxState = .idle →
    (crc ≠ headerCrc s.params.codec [type, destination, source, lenHi, lenLo] →
      s.readOctets (headerOnWire [type, destination, source, lenHi, lenLo] crc ++ rest) =
        State.readOctets
          { s with
            eventCount := s.eventCount + 8
            rx := { s.rxAfter with receivedInvalidFrame := some .badHeaderCrc } } rest) ∧
    (crc = headerCrc s.params.codec [type, destination, source, lenHi, lenLo] →
      s.params.codec.maxData < (frameLength lenHi lenLo).toNat →
      s.readOctets (headerOnWire [type, destination, source, lenHi, lenLo] crc ++ rest) =
        State.readOctets
          { s with
            eventCount := s.eventCount + 8
            rx := { s.rxAfter with receivedInvalidFrame := some .frameTooLong } } rest)

/-- R92: a frame with data whose two CRC octets are not the data's is recorded as BAD_DATA_CRC, whatever its type. -/
def Obligations.BadDataCrcRestartsParser : Prop :=
  ∀ (s : State) (f : Frame) (lo hi : Octet) (rest : List Octet),
    s.rx.rxState = .idle → f.data ≠ [] → s.params.codec.WellFormed → f.WellFormed s.params.codec →
    ¬(lo = lowOctet (dataCrc s.params.codec f.data) ∧ hi = highOctet (dataCrc s.params.codec f.data)) →
    s.readOctets
        (headerOnWire (headerOctets f) (headerCrc s.params.codec (headerOctets f)) ++ f.data ++ [lo, hi] ++ rest) =
      State.readOctets
        { s with
          eventCount := s.eventCount + (10 + f.data.length)
          rx := { s.rxAfter with receivedInvalidFrame := some .badDataCrc } } rest

/-- R82, R84, R85: octets that cannot start a frame are counted and dropped without an error; after a 0x55, another one is
counted and the parser still waits for 0xFF, and any other octet returns it to idle. -/
def Obligations.StrayOctetsAreDropped : Prop :=
  ∀ (s : State) (rest : List Octet),
    (∀ stray : List Octet, s.rx.rxState = .idle → (∀ b ∈ stray, b ≠ 0x55) →
      s.readOctets (stray ++ rest) =
        State.readOctets
          { s with
            eventCount := s.eventCount + stray.length
            rx := { s.rx with lastNonSilence := if stray = [] then s.rx.lastNonSilence else s.env.now } } rest) ∧
    (s.rx.rxState = .preamble1 →
      s.readOctets (0x55 :: rest) =
        State.readOctets
          { s with
            eventCount := s.eventCount + 1
            rx := { s.rx with lastNonSilence := s.env.now } } rest) ∧
    (∀ b : Octet, s.rx.rxState = .preamble1 → b ≠ 0x55 → b ≠ 0xFF →
      s.readOctets (b :: rest) =
        State.readOctets
          { s with
            eventCount := s.eventCount + 1
            rx := { s.rx with lastNonSilence := s.env.now, rxState := .idle } } rest)

/-- R83 (and R81 for its place in the drain): the abort check by parser state, on either side of `T_FRAME_ABORT`; a drain
makes it before any octet is read, and before the hold-off. -/
def Obligations.FrameAbortByParserState : Prop :=
  ∀ s : State,
    (s.silence < s.params.tFrameAbort → s.abortCheck = s) ∧
    ((s.params.tFrameAbort : Int) ≤ s.silence →
      let truncated : ReceiverRegs :=
        { s.rx with receivedInvalidFrame := some .truncated, rxState := .idle, rxHeader := [], rxData := [], rxLen := 0 }
      (s.rx.rxState = .idle → s.abortCheck = s) ∧
      (s.rx.rxState = .preamble1 →
        s.abortCheck = { s with rx := { s.rx with rxState := .idle, rxHeader := [], rxData := [], rxLen := 0 } }) ∧
      (s.rx.rxState ∈ [RxState.preamble2, .header, .data] →
        s.abortCheck = { s with rx := truncated } ∧
        (s.env.inputFifo = [] → s.drain = { s with rx := truncated }) ∧
        (s.rx.receivedValidFrame = true → s.seq.state ∈ [MasterState.idle, .waitForReply, .pollForMaster] →
          s.drain = { s with rx := truncated }) ∧
        (∀ (i : Instr) (rest : List Octet), s.params.codec.WellFormed → i.WellFormed s.params.codec →
          (s.rx.receivedValidFrame = false ∨
            s.seq.state ∈ [MasterState.useToken, .doneWithToken, .passToken, .noToken, .answerDataRequest]) →
          s.env.inputFifo = encode s.params.codec i ++ rest →
          s.drain =
            { s with
              eventCount := s.eventCount + (encode s.params.codec i).length
              rx := { truncated with
                lastNonSilence := s.env.now, frame := some i.toFrame, receivedValidFrame := true }
              env := { s.env with inputFifo := rest } })))

/-! ## What examining a frame does. That `exec` itself records the frame it examines, and is defined in every state, is the
model's choice (log 12). -/

/-- R109, R220: TOKEN examined in IDLE. -/
def Obligations.TokenExaminedInIdle : Prop :=
  ∀ (s : State) (d r : Octet) (x : List Octet), s.seq.state = .idle →
    (d = s.cfg.thisStation →
      exec (.token d r x) s =
        .next { s with
          rx := s.consumed (Instr.token d r x).toFrame
          seq := { s.seq with receivedToken := true, frameCount := 0, soleMaster := false, state := .useToken } }) ∧
    (d ≠ s.cfg.thisStation →
      exec (.token d r x) s = .next { s with rx := s.consumed (Instr.token d r x).toFrame })

/-- R110, R221: PFM examined in IDLE; a PFM to this station is answered to its source. -/
def Obligations.PollAnsweredInIdle : Prop :=
  ∀ (s : State) (d r : Octet) (x : List Octet), s.seq.state = .idle →
    (d = s.cfg.thisStation →
      exec (.pfm d r x) s =
        .next { s with
          rx := { s.consumed (Instr.pfm d r x).toFrame with lastNonSilence := s.env.now }
          env := { s.env with transmitted := s.transmittedWith 0x02 r [] } }) ∧
    (d ≠ s.cfg.thisStation →
      exec (.pfm d r x) s = .next { s with rx := s.consumed (Instr.pfm d r x).toFrame })

/-- R112, R223, R225: TREQ and DER examined in IDLE; a request to this station is delivered and the interleaving point
IDLE_DER_TAIL comes next, the state still IDLE. -/
def Obligations.RequestTakenInIdle : Prop :=
  ∀ (s : State) (d r : Octet) (x : List Octet), s.seq.state = .idle →
    ∀ i ∈ [Instr.treq d r x, .der d r x],
      (d = s.cfg.thisStation →
        exec i s =
          .next { s with
            rx := s.consumed i.toFrame
            seq := { s.seq with phase := .idleDerTail r }
            env := { s.env with delivered := s.env.delivered ++ [⟨s.env.now, .needingReply i.toFrame⟩] } }) ∧
      (d ≠ s.cfg.thisStation → exec i s = .next { s with rx := s.consumed i.toFrame })

/-- R111, R224, R226: TRESP and DNER examined in IDLE; to this station or broadcast they are delivered. -/
def Obligations.DataDeliveredInIdle : Prop :=
  ∀ (s : State) (d r : Octet) (x : List Octet), s.seq.state = .idle →
    ∀ i ∈ [Instr.tresp d r x, .dner d r x],
      (d = s.cfg.thisStation ∨ d = 0xFF →
        exec i s =
          .next { s with
            rx := s.consumed i.toFrame
            env := { s.env with delivered := s.env.delivered ++ [⟨s.env.now, .noReply i.toFrame⟩] } }) ∧
      (¬(d = s.cfg.thisStation ∨ d = 0xFF) → exec i s = .next { s with rx := s.consumed i.toFrame })

/-- R108, R113, R222, R227, R228: RPFM, RPOST and every unknown type are consumed in IDLE with no other effect. -/
def Obligations.OtherTypesDroppedInIdle : Prop :=
  ∀ (s : State) (d r : Octet) (x : List Octet) (l3 : BitVec 3) (l4 : BitVec 4) (l5 : BitVec 5) (l6 : BitVec 6)
    (l7 : BitVec 7), s.seq.state = .idle →
    ∀ i ∈ [Instr.rpfm d r x, .rpost d r x, .unknown08 l3 d r x, .unknown10 l4 d r x, .unknown20 l5 d r x,
        .unknown40 l6 d r x, .unknown80 l7 d r x],
      exec i s = .next { s with rx := s.consumed i.toFrame }

/-- R118, R119, R224, R226, R227: the replies examined in WAIT_FOR_REPLY. TRESP and DNER to this station are delivered and
end the wait, else they are consumed, a broadcast one too; RPOST to this station ends the wait without a delivery, else the
state goes to IDLE. -/
def Obligations.RepliesEndWait : Prop :=
  ∀ (s : State) (d r : Octet) (x : List Octet), s.seq.state = .waitForReply →
    (∀ i ∈ [Instr.tresp d r x, .dner d r x],
      (d = s.cfg.thisStation →
        exec i s =
          .next { s with
            rx := s.consumed i.toFrame
            seq := { s.seq with state := .doneWithToken }
            env := { s.env with delivered := s.env.delivered ++ [⟨s.env.now, .noReply i.toFrame⟩] } }) ∧
      (d ≠ s.cfg.thisStation → exec i s = .next { s with rx := s.consumed i.toFrame })) ∧
    exec (.rpost d r x) s =
      .next { s with
        rx := s.consumed (Instr.rpost d r x).toFrame
        seq := { s.seq with state := if d = s.cfg.thisStation then .doneWithToken else .idle } }

/-- R118, R119, R220 to R223, R225, R228: the types that are no reply, examined in WAIT_FOR_REPLY; to this station they are
consumed and the wait goes on, else the state goes to IDLE. -/
def Obligations.ForeignFramesInWait : Prop :=
  ∀ (s : State) (d r : Octet) (x : List Octet) (l3 : BitVec 3) (l4 : BitVec 4) (l5 : BitVec 5) (l6 : BitVec 6)
    (l7 : BitVec 7), s.seq.state = .waitForReply →
    ∀ i ∈ [Instr.token d r x, .pfm d r x, .rpfm d r x, .treq d r x, .der d r x, .unknown08 l3 d r x,
        .unknown10 l4 d r x, .unknown20 l5 d r x, .unknown40 l6 d r x, .unknown80 l7 d r x],
      exec i s =
        .next { s with
          rx := s.consumed i.toFrame
          seq := { s.seq with state := if d = s.cfg.thisStation then .waitForReply else .idle } }

/-- R136, R222: RPFM to this station examined in POLL_FOR_MASTER: its source, unchecked, becomes the successor and gets the
token. -/
def Obligations.PollReplyTakesSuccessor : Prop :=
  ∀ (s : State) (d r : Octet) (x : List Octet), s.seq.state = .pollForMaster → d = s.cfg.thisStation →
    exec (.rpfm d r x) s =
      .next { s with
        rx := { s.consumed (Instr.rpfm d r x).toFrame with lastNonSilence := s.env.now }
        seq := { s.seq with
          soleMaster := false, nextStation := r, pollStation := s.cfg.thisStation, retryCount := 0, tokenCount := 0,
          state := .passToken }
        eventCount := 0
        env := { s.env with transmitted := s.transmittedWith 0x00 r [] } }

/-- R137, R220 to R228: any other valid frame in POLL_FOR_MASTER, an RPFM not to this station among them, is consumed and
the state goes to IDLE. -/
def Obligations.OtherFramesEndPoll : Prop :=
  ∀ (s : State) (d r : Octet) (x : List Octet) (l3 : BitVec 3) (l4 : BitVec 4) (l5 : BitVec 5) (l6 : BitVec 6)
    (l7 : BitVec 7), s.seq.state = .pollForMaster →
    (∀ i ∈ [Instr.token d r x, .pfm d r x, .treq d r x, .tresp d r x, .der d r x, .dner d r x, .rpost d r x,
        .unknown08 l3 d r x, .unknown10 l4 d r x, .unknown20 l5 d r x, .unknown40 l6 d r x, .unknown80 l7 d r x],
      exec i s = .next { s with rx := s.consumed i.toFrame, seq := { s.seq with state := .idle } }) ∧
    (d ≠ s.cfg.thisStation →
      exec (.rpfm d r x) s =
        .next { s with rx := s.consumed (Instr.rpfm d r x).toFrame, seq := { s.seq with state := .idle } })

/-- R104, R243: in the five states that examine no frames, a frame of any type stays pending and nothing else changes. -/
def Obligations.FramesStayPendingElsewhere : Prop :=
  ∀ (s : State) (i : Instr),
    s.seq.state ∈ [MasterState.useToken, .doneWithToken, .passToken, .noToken, .answerDataRequest] →
    exec i s = .next { s with rx := { s.rx with frame := some i.toFrame, receivedValidFrame := true } }

/-- R105, R115, R135 against R220 to R228: for every frame type and every state, the type's table and the state's branches
say the same. -/
def Obligations.TablesAgreeWithHandlers : Prop :=
  ∀ (i : Instr) (s : State), s.cfg.thisStation.toNat ≤ 127 → exec i s = .next (frameBranch i.toFrame s)

/-! ## Steps. That a step takes its event from the schedule in State is the model's choice (log 6). -/

/-- A step runs the decoded instruction: when the worker's micro-step comes at the slot of a state whose handler reaches its
frame branch, and the pending frame is the one some octets decode to, the step is that instruction's meaning, and then the
phase advances (R103, R105, R115, R135). -/
def Obligations.StepRunsDecodedFrame : Prop :=
  ∀ (s : State) (now : Int) (rest : List Event) (octets after : List Octet) (i : Instr),
    s.AtSlot now rest → (s.started now rest).examinesNow = true →
    decode s.params.codec octets = .ok (i, after) → s.rx.receivedValidFrame = true → s.rx.frame = some i.toFrame →
    step s = thenNext (exec i (s.started now rest)) (fun t => t.advance s.seq.state)

/-- R81, R103, R105: octets of a frame that wait in the FIFO are received by the drain and examined by IDLE in the next
micro-step. -/
def Obligations.WireFrameIsReceivedThenExamined : Prop :=
  ∀ (s : State) (t1 t2 : Int) (events : List Event) (i : Instr) (rest : List Octet),
    s.params.codec.WellFormed → i.WellFormed s.params.codec →
    s.env.schedule = .worker t1 :: .worker t2 :: events → s.env.inputFifo = encode s.params.codec i ++ rest →
    s.lifecycle = .running → s.seq.phase = .drain → s.seq.state = .idle → s.rx.rxState = .idle →
    s.rx.receivedValidFrame = false → s.rx.receivedInvalidFrame = none → t2 - t1 < s.params.tNoToken →
    ∃ s1, step s = .next s1 ∧ s1.rx.frame = some i.toFrame ∧ s1.env.inputFifo = rest ∧
      step s1 = thenNext (exec i (s1.started t2 events)) (fun t => t.advance .idle)

/-- R103: the worker's micro-step at an empty slot only moves to the next slot, and where the drain is not enabled it does
not happen (the model's step then does nothing, log 16). -/
def Obligations.EmptyMicroSteps : Prop :=
  ∀ (s : State) (now : Int) (rest : List Event), s.env.schedule = .worker now :: rest →
    (∀ m, s.seq.phase = .slot m → s.seq.state ≠ m →
      step s =
        .next { s.started now rest with
          seq := { s.seq with phase := (match nextSlot m with | some m' => .slot m' | none => .drain) } }) ∧
    (s.seq.phase = .drain → s.lifecycle ≠ .running → step s = .next (s.started now rest))

/-- R103: in every state a running block's micro-step at DRAIN is the drain, and goes to the IDLE slot; and every micro-step
of the cycle it starts, whatever `lifecycle` is, comes nearer to the end of the cycle. -/
def Obligations.CycleReachesItsEnd : Prop :=
  ∀ (s : State) (now : Int) (rest : List Event), s.env.schedule = .worker now :: rest →
    (s.seq.phase = .drain → s.lifecycle = .running →
      step s =
        .next { (s.started now rest).drain with seq := { s.seq with phase := .slot .idle } }) ∧
    (∀ s', step s = .next s' → s.seq.phase ≠ .drain →
      microStepsLeft s'.seq.phase < microStepsLeft s.seq.phase)

/-! ## The sequencer's other branches -/

/-- R106. -/
def Obligations.LostTokenLeavesIdle : Prop :=
  ∀ (s : State) (now : Int) (rest : List Event), s.AtSlot now rest → s.seq.state = .idle →
    (s.params.tNoToken : Int) ≤ now - s.rx.lastNonSilence →
    step s = .next { s.started now rest with seq := { s.seq with state := .noToken, phase := .slot .useToken } }

/-- R107; and R105's last branch: with nothing pending only the phase moves on. -/
def Obligations.IdleConsumesInvalidFrame : Prop :=
  ∀ (s : State) (now : Int) (rest : List Event), s.AtSlot now rest → s.seq.state = .idle →
    now - s.rx.lastNonSilence < s.params.tNoToken →
    (s.rx.receivedInvalidFrame ≠ none →
      step s =
        .next { s.started now rest with
          rx := { s.rx with receivedInvalidFrame := none }
          seq := { s.seq with phase := .slot .useToken } }) ∧
    (s.rx.receivedInvalidFrame = none → s.rx.receivedValidFrame = false →
      step s = .next { s.started now rest with seq := { s.seq with phase := .slot .useToken } })

/-- R114: an empty queue ends the possession; else the oldest frame goes out, a queued frame of a type that cannot be queued
being the one fault. -/
def Obligations.UseTokenSendsOldestFrame : Prop :=
  ∀ (s : State) (now : Int) (rest : List Event), s.AtSlot now rest → s.seq.state = .useToken →
    (s.buf.framesToSend = [] →
      step s =
        .next { s.started now rest with
          seq := { s.seq with
            frameCount := s.cfg.maxInfoFrames, state := .doneWithToken, phase := .slot .waitForReply } }) ∧
    (∀ q qs, s.buf.framesToSend = q :: qs →
      (q.type ∈ [0x06#8, 0x04#8, 0x05#8, 0x03#8] →
        step s =
          .next { s.started now rest with
            buf := { s.buf with framesToSend := qs }
            rx := { s.rx with lastNonSilence := now }
            env := { (s.started now rest).env with
              transmitted := (s.started now rest).transmittedWith q.type q.destination q.data }
            seq := { s.seq with
              frameCount := s.seq.frameCount + 1
              state := if q.type ∈ [0x06#8, 0x04#8] then .doneWithToken else .waitForReply
              phase := .slot .waitForReply } }) ∧
      (q.type ∉ [0x06#8, 0x04#8, 0x05#8, 0x03#8] → step s = .fault (.unreachableQueueType q.type)))

/-- R116, R117: WAIT_FOR_REPLY's two branches that come before the frame branch; and R115's last branch: with nothing
pending the wait goes on, and only the phase moves on. -/
def Obligations.WaitEndsBeforeFrames : Prop :=
  ∀ (s : State) (now : Int) (rest : List Event), s.AtSlot now rest → s.seq.state = .waitForReply →
    ((s.params.tReplyTimeout : Int) < now - s.rx.lastNonSilence →
      step s =
        .next { s.started now rest with
          seq := { s.seq with
            frameCount := s.cfg.maxInfoFrames, state := .doneWithToken, phase := .slot .doneWithToken } }) ∧
    (now - s.rx.lastNonSilence ≤ s.params.tReplyTimeout → s.rx.receivedInvalidFrame ≠ none →
      step s =
        .next { s.started now rest with
          rx := { s.rx with receivedInvalidFrame := none }
          seq := { s.seq with state := .doneWithToken, phase := .slot .doneWithToken } }) ∧
    (now - s.rx.lastNonSilence ≤ s.params.tReplyTimeout → s.rx.receivedInvalidFrame = none →
      s.rx.receivedValidFrame = false →
      step s = .next { s.started now rest with seq := { s.seq with phase := .slot .doneWithToken } })

/-- R121, R123: DONE_WITH_TOKEN's branches that keep the token. -/
def Obligations.DoneWithTokenKeepsToken : Prop :=
  ∀ (s : State) (now : Int) (rest : List Event), s.AtSlot now rest → s.seq.state = .doneWithToken →
    (s.seq.frameCount < s.cfg.maxInfoFrames →
      step s = .next { s.started now rest with seq := { s.seq with state := .useToken, phase := .slot .passToken } }) ∧
    (s.cfg.maxInfoFrames ≤ s.seq.frameCount → s.seq.soleMaster = true → s.seq.tokenCount + 1 < s.params.nPoll →
      step s =
        .next { s.started now rest with
          seq := { s.seq with
            frameCount := 0, tokenCount := s.seq.tokenCount + 1, state := .useToken, phase := .slot .passToken } })

/-- R122, R125, R127: DONE_WITH_TOKEN's branches that poll. -/
def Obligations.DoneWithTokenPolls : Prop :=
  ∀ (s : State) (now : Int) (rest : List Event), s.AtSlot now rest → s.seq.state = .doneWithToken →
    s.cfg.maxInfoFrames ≤ s.seq.frameCount →
    let u := s.started now rest
    (s.seq.soleMaster = false → s.seq.nextStation = s.cfg.thisStation →
      step s =
        .next { u with
          rx := { s.rx with lastNonSilence := now }
          env := { u.env with transmitted := u.transmittedWith 0x01 (s.adjacent s.cfg.thisStation) [] }
          seq := { s.seq with
            pollStation := s.adjacent s.cfg.thisStation, retryCount := 0, state := .pollForMaster,
            phase := .slot .passToken } }) ∧
    ((s.seq.soleMaster = true ∨ s.seq.nextStation ≠ s.cfg.thisStation) → s.params.nPoll ≤ s.seq.tokenCount + 1 →
      s.seq.nextStation ≠ s.adjacent s.cfg.thisStation → s.adjacent s.seq.pollStation ≠ s.seq.nextStation →
      step s =
        .next { u with
          rx := { s.rx with lastNonSilence := now }
          env := { u.env with transmitted := u.transmittedWith 0x01 (s.adjacent s.seq.pollStation) [] }
          seq := { s.seq with
            pollStation := s.adjacent s.seq.pollStation, retryCount := 0, state := .pollForMaster,
            phase := .slot .passToken } }) ∧
    (s.seq.soleMaster = true → s.params.nPoll ≤ s.seq.tokenCount + 1 →
      s.seq.nextStation ≠ s.adjacent s.cfg.thisStation → s.adjacent s.seq.pollStation = s.seq.nextStation →
      step s =
        .next { u with
          rx := { s.rx with lastNonSilence := now }
          env := { u.env with transmitted := u.transmittedWith 0x01 (s.adjacent s.seq.nextStation) [] }
          eventCount := 0
          seq := { s.seq with
            pollStation := s.adjacent s.seq.nextStation, nextStation := s.cfg.thisStation, retryCount := 0,
            tokenCount := 1, state := .pollForMaster, phase := .slot .passToken } })

/-- R124, R126: DONE_WITH_TOKEN's branches that pass the token. -/
def Obligations.DoneWithTokenPassesToken : Prop :=
  ∀ (s : State) (now : Int) (rest : List Event), s.AtSlot now rest → s.seq.state = .doneWithToken →
    s.cfg.maxInfoFrames ≤ s.seq.frameCount →
    let u := s.started now rest
    ((s.seq.soleMaster = false ∧ s.seq.nextStation ≠ s.cfg.thisStation ∧
          (s.seq.tokenCount + 1 < s.params.nPoll ∨ s.seq.nextStation = s.adjacent s.cfg.thisStation)) ∨
        (s.seq.soleMaster = true ∧ s.params.nPoll ≤ s.seq.tokenCount + 1 ∧
          s.seq.nextStation = s.adjacent s.cfg.thisStation) →
      step s =
        .next { u with
          rx := { s.rx with lastNonSilence := now }
          env := { u.env with transmitted := u.transmittedWith 0x00 s.seq.nextStation [] }
          eventCount := 0
          seq := { s.seq with
            tokenCount := s.seq.tokenCount + 1, retryCount := 0, state := .passToken, phase := .slot .passToken } }) ∧
    (s.seq.soleMaster = false → s.seq.nextStation ≠ s.cfg.thisStation → s.params.nPoll ≤ s.seq.tokenCount + 1 →
      s.seq.nextStation ≠ s.adjacent s.cfg.thisStation → s.adjacent s.seq.pollStation = s.seq.nextStation →
      step s =
        .next { u with
          rx := { s.rx with lastNonSilence := now }
          env := { u.env with transmitted := u.transmittedWith 0x00 s.seq.nextStation [] }
          eventCount := 0
          seq := { s.seq with
            pollStation := s.cfg.thisStation, tokenCount := 1, retryCount := 0, state := .passToken,
            phase := .slot .passToken } })

/-- R128 to R131: PASS_TOKEN's four cases. -/
def Obligations.PassTokenBranches : Prop :=
  ∀ (s : State) (now : Int) (rest : List Event), s.AtSlot now rest → s.seq.state = .passToken →
    let u := s.started now rest
    (now - s.rx.lastNonSilence < s.cfg.usageTimeout → s.params.nMinOctets < s.eventCount →
      step s = .next { u with seq := { s.seq with state := .idle, phase := .slot .noToken } }) ∧
    (now - s.rx.lastNonSilence < s.cfg.usageTimeout → s.eventCount ≤ s.params.nMinOctets →
      step s = .next { u with seq := { s.seq with phase := .slot .noToken } }) ∧
    ((s.cfg.usageTimeout : Int) ≤ now - s.rx.lastNonSilence → s.seq.retryCount < s.params.nRetryToken →
      step s =
        .next { u with
          rx := { s.rx with lastNonSilence := now }
          env := { u.env with transmitted := u.transmittedWith 0x00 s.seq.nextStation [] }
          eventCount := 0
          seq := { s.seq with retryCount := s.seq.retryCount + 1, phase := .slot .noToken } }) ∧
    ((s.cfg.usageTimeout : Int) ≤ now - s.rx.lastNonSilence → s.params.nRetryToken ≤ s.seq.retryCount →
      step s =
        .next { u with
          rx := { s.rx with lastNonSilence := now }
          env := { u.env with transmitted := u.transmittedWith 0x01 (s.adjacent s.seq.nextStation) [] }
          eventCount := 0
          seq := { s.seq with
            pollStation := s.adjacent s.seq.nextStation, nextStation := s.cfg.thisStation, retryCount := 0,
            tokenCount := 0, state := .pollForMaster, phase := .slot .noToken } })

/-- R132 to R134: NO_TOKEN sees traffic, generates the token in its slot window or past the whole slot range, or waits. -/
def Obligations.NoTokenBranches : Prop :=
  ∀ (s : State) (now : Int) (rest : List Event), s.AtSlot now rest → s.seq.state = .noToken →
    s.cfg.thisStation.toNat ≤ s.cfg.maxMaster.toNat →
    let u := s.started now rest
    let quiet : Int := now - s.rx.lastNonSilence
    let delay : Int := s.params.tNoToken + s.params.tSlot * s.cfg.thisStation.toNat
    let bound : Int := s.params.tNoToken + s.params.tSlot * (s.cfg.maxMaster.toNat + 1)
    (quiet < delay → s.params.nMinOctets < s.eventCount →
      step s = .next { u with seq := { s.seq with state := .idle, phase := .slot .pollForMaster } }) ∧
    (quiet < delay → s.eventCount ≤ s.params.nMinOctets →
      step s = .next { u with seq := { s.seq with phase := .slot .pollForMaster } }) ∧
    (delay + s.params.tSlot ≤ quiet → quiet ≤ bound →
      step s = .next { u with seq := { s.seq with phase := .slot .pollForMaster } }) ∧
    ((delay ≤ quiet ∧ quiet < delay + s.params.tSlot) ∨ bound < quiet →
      step s =
        .next { u with
          rx := { s.rx with lastNonSilence := now }
          env := { u.env with transmitted := u.transmittedWith 0x01 (s.adjacent s.cfg.thisStation) [] }
          eventCount := 0
          seq := { s.seq with
            pollStation := s.adjacent s.cfg.thisStation, nextStation := s.cfg.thisStation, retryCount := 0,
            tokenCount := 0, state := .pollForMaster, phase := .slot .pollForMaster } })

/-- R138 to R142: POLL_FOR_MASTER with no valid frame pending. -/
def Obligations.PollUnansweredBranches : Prop :=
  ∀ (s : State) (now : Int) (rest : List Event), s.AtSlot now rest → s.seq.state = .pollForMaster →
    s.rx.receivedValidFrame = false →
    let u := s.started now rest
    let long := (s.cfg.usageTimeout : Int) ≤ now - s.rx.lastNonSilence ∨ s.rx.receivedInvalidFrame ≠ none
    (¬long → step s = .next { u with seq := { s.seq with phase := .slot .answerDataRequest } }) ∧
    (long → s.seq.soleMaster = true →
      step s =
        .next { u with
          rx := { s.rx with receivedInvalidFrame := none }
          seq := { s.seq with frameCount := 0, state := .useToken, phase := .slot .answerDataRequest } }) ∧
    (long → s.seq.soleMaster = false → s.seq.nextStation ≠ s.cfg.thisStation →
      step s =
        .next { u with
          rx := { s.rx with receivedInvalidFrame := none, lastNonSilence := now }
          env := { u.env with transmitted := u.transmittedWith 0x00 s.seq.nextStation [] }
          eventCount := 0
          seq := { s.seq with retryCount := 0, state := .passToken, phase := .slot .answerDataRequest } }) ∧
    (long → s.seq.soleMaster = false → s.seq.nextStation = s.cfg.thisStation →
      s.adjacent s.seq.pollStation ≠ s.cfg.thisStation →
      step s =
        .next { u with
          rx := { s.rx with receivedInvalidFrame := none, lastNonSilence := now }
          env := { u.env with transmitted := u.transmittedWith 0x01 (s.adjacent s.seq.pollStation) [] }
          seq := { s.seq with
            pollStation := s.adjacent s.seq.pollStation, retryCount := 0, phase := .slot .answerDataRequest } }) ∧
    (long → s.seq.soleMaster = false → s.seq.nextStation = s.cfg.thisStation →
      s.adjacent s.seq.pollStation = s.cfg.thisStation →
      step s =
        .next { u with
          rx := { s.rx with receivedInvalidFrame := none }
          seq := { s.seq with
            receivedToken := true, soleMaster := true, frameCount := 0, state := .useToken,
            phase := .slot .answerDataRequest } })

/-- R112: the second micro-step of a request measures the deadline from the last wire event and enters
ANSWER_DATA_REQUEST. -/
def Obligations.RequestTailEntersAnswerState : Prop :=
  ∀ (s : State) (now : Int) (rest : List Event) (source : Octet),
    s.env.schedule = .worker now :: rest → s.seq.phase = .idleDerTail source →
    step s =
      .next { s.started now rest with
        seq := { s.seq with
          replyDeadline := s.rx.lastNonSilence + s.params.tReplyDelay, answerSource := source,
          state := .answerDataRequest, phase := .slot .useToken } }

/-- R143 to R147: ANSWER_DATA_REQUEST's four cases. -/
def Obligations.AnswerDataRequestBranches : Prop :=
  ∀ (s : State) (now : Int) (rest : List Event), s.AtSlot now rest → s.seq.state = .answerDataRequest →
    let u := s.started now rest
    (∀ r, s.buf.replyFrame = some r →
      step s =
        .next { u with
          rx := { s.rx with lastNonSilence := now }
          env := { u.env with transmitted := u.transmittedWith r.type r.destination r.data }
          buf := { s.buf with replyFrame := none }
          seq := { s.seq with state := .idle, phase := .drain } }) ∧
    (s.buf.replyFrame = none → s.seq.replyDeadline < now →
      step s =
        .next { u with
          rx := { s.rx with lastNonSilence := now }
          env := { u.env with transmitted := u.transmittedWith 0x07 s.seq.answerSource [] }
          seq := { s.seq with state := .idle, phase := .drain } }) ∧
    (s.buf.replyFrame = none → now ≤ s.seq.replyDeadline → (s.params.tReplyDelay : Int) < s.seq.replyDeadline - now →
      step s =
        .next { u with seq := { s.seq with replyDeadline := now + s.params.tReplyDelay, phase := .drain } }) ∧
    (s.buf.replyFrame = none → now ≤ s.seq.replyDeadline → s.seq.replyDeadline - now ≤ s.params.tReplyDelay →
      step s = .next { u with seq := { s.seq with phase := .drain } })

/-- R104, R178, R243: a worker micro-step at a slot outside the three examining states leaves both indications and `frame`
as they are. -/
def Obligations.UnexaminedIndicationsStay : Prop :=
  ∀ (s s' : State) (now : Int) (rest : List Event),
    s.env.schedule = .worker now :: rest → s.seq.phase ≠ .drain →
    s.seq.state ∈ [MasterState.useToken, .doneWithToken, .passToken, .noToken, .answerDataRequest] →
    step s = .next s' →
    s'.rx.receivedValidFrame = s.rx.receivedValidFrame ∧ s'.rx.frame = s.rx.frame ∧
      s'.rx.receivedInvalidFrame = s.rx.receivedInvalidFrame

/-! ## Host operations -/

/-- R176 (the list of answers is the model's, log 9): a host operation that answers a configuration fault leaves the block as it was and emits nothing: only the answer
is recorded. -/
def Obligations.ConfigFaultChangesNothing : Prop :=
  ∀ (op : HostOp) (c : ConfigFault) (s : State),
    (runHostOp op s).env.returned = s.env.returned ++ [⟨op, .configFault c⟩] →
    runHostOp op s = { s with env := { s.env with returned := s.env.returned ++ [⟨op, .configFault c⟩] } }

/-- R177: the first failing check is the one reported, for the three operations with several checks. -/
def Obligations.ConfigFaultPriority : Prop :=
  ∀ s : State,
    (∀ ts rc : Int,
      (ts < 0 ∨ 127 < ts →
        runHostOp (.construct ts rc) s = s.raiseConfigFault (.construct ts rc) .stationRange) ∧
      (0 ≤ ts → ts ≤ 127 → rc < 0 →
        runHostOp (.construct ts rc) s = s.raiseConfigFault (.construct ts rc) .retryCount)) ∧
    (∀ (type d : Octet) (x : List Octet),
      (type ∉ [0x05#8, 0x06#8, 0x03#8] →
        runHostOp (.queueFrame type d x) s = s.raiseConfigFault (.queueFrame type d x) .frameType) ∧
      (type ∈ [0x05#8, 0x06#8, 0x03#8] → s.params.codec.maxData < x.length →
        runHostOp (.queueFrame type d x) s = s.raiseConfigFault (.queueFrame type d x) .dataLength)) ∧
    (∀ (type d : Octet) (x : List Octet),
      (s.params.codec.maxData < x.length →
        runHostOp (.setReplyFrame type d x) s = s.raiseConfigFault (.setReplyFrame type d x) .dataLength) ∧
      (x.length ≤ s.params.codec.maxData → s.seq.state ≠ .answerDataRequest → type ∉ [0x05#8, 0x06#8, 0x03#8] →
        runHostOp (.setReplyFrame type d x) s = s.raiseConfigFault (.setReplyFrame type d x) .frameType))

/-- R156, R157, R158: each setter writes its register inside its range and faults outside it. -/
def Obligations.SettersWriteInRange : Prop :=
  ∀ (s : State) (n : Int),
    ((s.cfg.thisStation.toNat : Int) ≤ n → n ≤ 127 →
      runHostOp (.setMaxMaster n) s =
        State.returnTo { s with cfg := { s.cfg with maxMaster := BitVec.ofInt 8 n } } (.setMaxMaster n) .ok) ∧
    (n < s.cfg.thisStation.toNat ∨ 127 < n →
      runHostOp (.setMaxMaster n) s = s.raiseConfigFault (.setMaxMaster n) .maxMaster) ∧
    (1 ≤ n →
      runHostOp (.setMaxInfoFrames n) s =
        State.returnTo { s with cfg := { s.cfg with maxInfoFrames := n.toNat } } (.setMaxInfoFrames n) .ok) ∧
    (n < 1 → runHostOp (.setMaxInfoFrames n) s = s.raiseConfigFault (.setMaxInfoFrames n) .maxInfoFrames) ∧
    (20 ≤ n → n ≤ 100 →
      runHostOp (.setUsageTimeout n) s =
        State.returnTo { s with cfg := { s.cfg with usageTimeout := n.toNat } } (.setUsageTimeout n) .ok) ∧
    (n < 20 ∨ 100 < n → runHostOp (.setUsageTimeout n) s = s.raiseConfigFault (.setUsageTimeout n) .usageTimeout)

/-- R154 (the list of held calls is the model's, log 10): an accepted frame is pushed at the tail, or the call is held while
the queue is full; and a held call that looks again, whichever it is and whichever operation made it, pushes the frame it
was held with and completes exactly when there is room. That a held `setReplyFrame` does not look at the state again is the
model's choice (log 27). -/
def Obligations.QueueFramePushesOrHolds : Prop :=
  ∀ s : State,
    let room := ∀ c, s.params.queueCapacity = some c → s.buf.framesToSend.length < c
    let full := ∃ c, s.params.queueCapacity = some c ∧ c ≤ s.buf.framesToSend.length
    (∀ (type d : Octet) (x : List Octet), type ∈ [0x05#8, 0x06#8, 0x03#8] → x.length ≤ s.params.codec.maxData →
      let f : Frame := ⟨type, d, s.cfg.thisStation, x⟩
      let op := HostOp.queueFrame type d x
      (room →
        runHostOp op s =
          State.returnTo { s with buf := { s.buf with framesToSend := s.buf.framesToSend ++ [f] } } op .ok) ∧
      (full → runHostOp op s = { s with env := { s.env with waiting := s.env.waiting ++ [⟨op, f⟩] } })) ∧
    (∀ (k : Nat) (w : WaitingCall), s.env.waiting[k]? = some w →
      (room →
        s.resumeCall k =
          State.returnTo
            { s with
              buf := { s.buf with framesToSend := s.buf.framesToSend ++ [w.frame] }
              env := { s.env with waiting := s.env.waiting.eraseIdx k } } w.op .ok) ∧
      (full → s.resumeCall k = s)) ∧
    (∀ k : Nat, s.env.waiting[k]? = none → s.resumeCall k = s)

/-- R155: in ANSWER_DATA_REQUEST any type fills the slot, over an earlier reply and whatever the queue; in every other state
the call does what `queueFrame` does, and is answered as itself. -/
def Obligations.SetReplyFrameFillsSlotOrQueues : Prop :=
  ∀ (s : State) (type d : Octet) (x : List Octet), x.length ≤ s.params.codec.maxData →
    let f : Frame := ⟨type, d, s.cfg.thisStation, x⟩
    let op := HostOp.setReplyFrame type d x
    (s.seq.state = .answerDataRequest →
      runHostOp op s = State.returnTo { s with buf := { s.buf with replyFrame := some f } } op .ok) ∧
    (s.seq.state ≠ .answerDataRequest → type ∈ [0x05#8, 0x06#8, 0x03#8] →
      ((∀ c, s.params.queueCapacity = some c → s.buf.framesToSend.length < c) →
        runHostOp op s =
          State.returnTo { s with buf := { s.buf with framesToSend := s.buf.framesToSend ++ [f] } } op .ok) ∧
      (∀ c, s.params.queueCapacity = some c → c ≤ s.buf.framesToSend.length →
        runHostOp op s = { s with env := { s.env with waiting := s.env.waiting ++ [⟨op, f⟩] } }))

/-- R159, R160, R161, R232: hasReceivedToken, terminate and initialize. -/
def Obligations.LifecycleOperations : Prop :=
  ∀ s : State,
    runHostOp .hasReceivedToken s = s.returnTo .hasReceivedToken (.boolean s.seq.receivedToken) ∧
    runHostOp .terminate s =
      State.returnTo { s with buf := { s.buf with replyFrame := none }, lifecycle := .terminated } .terminate .ok ∧
    (s.lifecycle ≠ .constructed → runHostOp .initializeBlock s = s.raiseConfigFault .initializeBlock .lifecycle) ∧
    (s.lifecycle = .constructed →
      runHostOp .initializeBlock s =
        State.returnTo
          { s with
            rx := { s.rx with lastNonSilence := s.env.now }
            lifecycle := .running
            env := { s.env with
              published := s.env.published ++ [⟨s.env.now, s.cfg.maxMaster.toNat, s.cfg.maxInfoFrames⟩] } }
          .initializeBlock .ok)

/-- R162, R230: `Construct` with legal arguments gives every register its construction value. The values of the three
defaulted configuration registers are the parameters of R4. That the new block takes the old one's place on the channel is
the model's choice (log 11). -/
def Obligations.ConstructGivesResetValues : Prop :=
  ∀ (s : State) (ts rc : Nat), ts ≤ 127 →
    let t := runHostOp (.construct ts rc) s
    t.params = s.params ∧
    t.cfg = ⟨BitVec.ofNat 8 ts, s.params.maxMasterDefault, s.params.maxInfoFramesDefault, s.params.usageTimeoutDefault⟩ ∧
    t.seq = ⟨.idle, .drain, BitVec.ofNat 8 ts, BitVec.ofNat 8 ts, false, false, rc, 0, 0, 0, 0⟩ ∧
    t.eventCount = 0 ∧ t.rx = ⟨0, false, none, none, .idle, [], [], 0⟩ ∧ t.buf = ⟨[], none⟩ ∧
    t.lifecycle = .constructed

/-- R33, R49, R151, R186. The model's, and no rule of the spec, are each host event's own `now` (log 26) and, in the third
clause, the event by which a held call looks for room again (log 10). A scheduled event of the host or the
environment is taken by the step and does its operation, and no host operation but `Construct` writes a register of the
sequencer or the receiver, the event counter, the input FIFO, the transmit stream or the delivery stream; `initialize` writes
`lastNonSilence`. -/
def Obligations.HostOperationsLeaveWorkerState : Prop :=
  (∀ (s : State) (op : HostOp) (now : Int) (rest : List Event), s.env.schedule = .host op now :: rest →
    step s = .next (runHostOp op (s.started now rest))) ∧
  (∀ (s : State) (octets : List Octet) (rest : List Event), s.env.schedule = .receive octets :: rest →
    step s = .next { s with env := { s.env with schedule := rest, inputFifo := s.env.inputFifo ++ octets } }) ∧
  (∀ (s : State) (k : Nat) (rest : List Event), s.env.schedule = .resume k :: rest →
    step s = .next (State.resumeCall { s with env := { s.env with schedule := rest } } k)) ∧
  (∀ (op : HostOp) (s : State), (∀ ts rc, op ≠ .construct ts rc) →
    let t := runHostOp op s
    t.seq = s.seq ∧ t.eventCount = s.eventCount ∧ t.env.inputFifo = s.env.inputFifo ∧
    t.env.transmitted = s.env.transmitted ∧ t.env.delivered = s.env.delivered ∧
    (op ≠ .initializeBlock → t.rx = s.rx) ∧ { t.rx with lastNonSilence := s.rx.lastNonSilence } = s.rx)

/-- R112, R155, R164: a reply set from inside the delivery hook is queued, and the request is then waited on with an empty
slot. -/
def Obligations.ReplyInsideHookIsQueued : Prop :=
  ∀ (s : State) (type d source : Octet) (x : List Octet) (t1 t2 : Int) (rest : List Event),
    s.Wf → s.seq.phase = .idleDerTail source → type ∈ [0x05#8, 0x06#8, 0x03#8] →
    x.length ≤ s.params.codec.maxData → s.params.queueCapacity = none →
    s.env.schedule = .host (.setReplyFrame type d x) t1 :: .worker t2 :: rest →
    ∃ s', core.run 2 s = .next s' ∧ s'.seq.state = .answerDataRequest ∧ s'.buf.replyFrame = none ∧
      s'.buf.framesToSend = s.buf.framesToSend ++ [⟨type, d, s.cfg.thisStation, x⟩] ∧
      s'.seq.answerSource = source ∧ s'.seq.replyDeadline = s.rx.lastNonSilence + s.params.tReplyDelay

/-! ## Properties of every step -/

/-- R35 and the legal values of R8 to R31: every step of a well-formed state answers a well-formed next state; so no step
from one faults, the USE_TOKEN fault arm included (R114). -/
def Obligations.StepKeepsWellFormedness : Prop :=
  ∀ s : State, s.Wf → ∃ s', step s = .next s' ∧ s'.Wf

/-- R230: the state after reset is well formed. The station address and the `retryCount` argument of that state are the
model's choice (log 1, log 2). -/
def Obligations.ResetIsWellFormed : Prop := State.reset.Wf

/-- R18, R35: a step that is no call of `setMaxInfoFrames` keeps the frame budget of a possession. -/
def Obligations.StepKeepsFrameBudget : Prop :=
  ∀ s s' : State, s.Wf → s.BudgetOk → isSetMaxInfoFrames s.nextEvent = false → step s = .next s' → s'.BudgetOk

/-- R8, R15, R32, R235 (a new block in the old one's place is the model's choice, log 11): until a new block is constructed, `thisStation` and the parameters never change, `receivedToken` is
never cleared, nothing leaves TERMINATED and nothing returns to CONSTRUCTED. -/
def Obligations.OneWayRegisters : Prop :=
  ∀ s s' : State, isConstruct s.nextEvent = false → step s = .next s' →
    s'.params = s.params ∧ s'.cfg.thisStation = s.cfg.thisStation ∧
    (s.seq.receivedToken = true → s'.seq.receivedToken = true) ∧
    (s.lifecycle = .terminated → s'.lifecycle = .terminated) ∧
    (s'.lifecycle = .constructed → s.lifecycle = .constructed)

/-- R49: a worker micro-step writes no configuration register, no lifecycle, no publication and nothing of the host's side;
it only takes from the queue and empties the slot, and it stamps with its own `now`. -/
def Obligations.WorkerLeavesHostState : Prop :=
  ∀ (s s' : State) (now : Int) (rest : List Event),
    s.env.schedule = .worker now :: rest → step s = .next s' →
    s'.params = s.params ∧ s'.cfg = s.cfg ∧ s'.lifecycle = s.lifecycle ∧
    s'.env.published = s.env.published ∧ s'.env.waiting = s.env.waiting ∧ s'.env.returned = s.env.returned ∧
    s'.env.now = now ∧ s'.env.schedule = rest ∧
    (s'.buf.framesToSend = s.buf.framesToSend ∨ ∃ q, s.buf.framesToSend = q :: s'.buf.framesToSend) ∧
    (s'.buf.replyFrame = s.buf.replyFrame ∨ s'.buf.replyFrame = none)

/-- R34, R48, R53, R100, R303: the output streams only grow, by at most one whole event a step, stamped with the step's
`now`; every transmission is the encoding of a frame from this station. -/
def Obligations.OutputsOnlyGrow : Prop :=
  ∀ s s' : State, step s = .next s' →
    ∃ sent delivered published,
      s'.env.transmitted = s.env.transmitted ++ sent ∧ sent.length ≤ 1 ∧
      (∀ x ∈ sent, x.time = s'.env.now ∧ ∃ f : Frame, f.source = s.cfg.thisStation ∧ x.octets = encodeFrame s.params.codec f) ∧
      s'.env.delivered = s.env.delivered ++ delivered ∧ delivered.length ≤ 1 ∧
      (∀ x ∈ delivered, x.time = s'.env.now) ∧
      s'.env.published = s.env.published ++ published ∧ published.length ≤ 1 ∧ (∀ x ∈ published, x.time = s'.env.now)

/-- R54: over any run in which no new block is constructed, the frames popped from the queue are the oldest, in the order
of their pushes, and their encodings leave on the transmit stream in that order. -/
def Obligations.QueuedFramesLeaveInPushOrder : Prop :=
  ∀ (n : Nat) (s s' : State), n ≤ s.env.schedule.length → (∀ e ∈ s.env.schedule.take n, isConstruct e = false) →
    core.run n s = .next s' →
    ∃ pushed popped sent,
      s.buf.framesToSend ++ pushed = popped ++ s'.buf.framesToSend ∧
      s'.env.transmitted = s.env.transmitted ++ sent ∧
      (popped.map fun q : Frame =>
          encodeFrame s.params.codec ⟨q.type, q.destination, s.cfg.thisStation, q.data⟩).Sublist
        (sent.map fun x => x.octets)

/-- R68: the value of `adjacent` with the current `maxMaster` register, and where `k` applications of it lead from a legal
address. -/
def Obligations.AdjacentWalksTheRing : Prop :=
  ∀ (s : State) (x : Octet),
    (s.adjacent x).toNat = (x.toNat + 1) % (s.cfg.maxMaster.toNat + 1) ∧
    (∀ k : Nat, x.toNat ≤ s.cfg.maxMaster.toNat →
      (Nat.iterate s.adjacent k x).toNat = (x.toNat + k) % (s.cfg.maxMaster.toNat + 1))

/-- R80, R190: in a well-formed state whose clock has gone back past the last wire event, every silence test answers as it
does for a silence of 0. -/
def Obligations.NegativeSilenceComparesAsZero : Prop :=
  ∀ s : State, s.Wf → s.env.now < s.rx.lastNonSilence →
    let z := s.atTime s.rx.lastNonSilence
    s.tokenLost = z.tokenLost ∧ s.replyTimedOut = z.replyTimedOut ∧ s.usageTimedOut = z.usageTimedOut ∧
    s.mayGenerateToken = z.mayGenerateToken ∧ s.abortDue = z.abortDue ∧
    decide (s.silence < s.noTokenDelay) = decide (z.silence < z.noTokenDelay)

/-- R94, R193: on a bus of several blocks, a step of node `k` leaves node `k` as its own step left it, and appends the octets
of the transmissions it gained, in order, to the FIFO of every other node. -/
def Obligations.BusCarriesToOtherNodesOnly : Prop :=
  ∀ (nodes nodes' : List State) (k : Nat) (s s' : State) (sent : List Transmission),
    nodes[k]? = some s → step s = .next s' → s'.env.transmitted = s.env.transmitted ++ sent →
    busStep nodes k = .next nodes' →
    nodes'.length = nodes.length ∧ nodes'[k]? = some s' ∧
    (∀ (j : Nat) (n : State), j ≠ k → nodes[j]? = some n →
      nodes'[j]? =
        some { n with env := { n.env with inputFifo := n.env.inputFifo ++ (sent.map fun x => x.octets).flatten } })
end

