-- ==== Sys2Proof/Laws/PerInstr.lean ====
section
/-! SUPPORT. The family `Classify`: the frame record of an instruction is classified back to that instruction (R57, R61);
one lemma per constructor. -/

namespace Sys2Proof.Laws.Classify

/-- No bit of an instruction is dropped on the way to its frame record and back. -/
def Statement (i : Instr) : Prop := Instr.ofFrame i.toFrame = i

/-- The type is none of the eight defined ones. -/
abbrev NoneDefined (t : Octet) : Prop :=
  t ≠ typeToken ∧ t ≠ typePfm ∧ t ≠ typeRpfm ∧ t ≠ typeTreq ∧ t ≠ typeTresp ∧ t ≠ typeDer ∧ t ≠ typeDner ∧ t ≠ typeRpost

theorem type_08_0F : ∀ l : BitVec 3, let t : Octet := 0b00001#5 ++ l
    NoneDefined t ∧ t &&& 0xF8 = 0x08 ∧ t.extractLsb' 0 3 = l := by decide
theorem type_10_1F : ∀ l : BitVec 4, let t : Octet := 0b0001#4 ++ l
    NoneDefined t ∧ t &&& 0xF8 ≠ 0x08 ∧ t &&& 0xF0 = 0x10 ∧ t.extractLsb' 0 4 = l := by decide
theorem type_20_3F : ∀ l : BitVec 5, let t : Octet := 0b001#3 ++ l
    NoneDefined t ∧ t &&& 0xF8 ≠ 0x08 ∧ t &&& 0xF0 ≠ 0x10 ∧ t &&& 0xE0 = 0x20 ∧ t.extractLsb' 0 5 = l := by decide
theorem type_40_7F : ∀ l : BitVec 6, let t : Octet := 0b01#2 ++ l
    NoneDefined t ∧ t &&& 0xF8 ≠ 0x08 ∧ t &&& 0xF0 ≠ 0x10 ∧ t &&& 0xE0 ≠ 0x20 ∧ t &&& 0xC0 = 0x40 ∧
      t.extractLsb' 0 6 = l := by decide
theorem type_80_FF : ∀ l : BitVec 7, let t : Octet := 0b1#1 ++ l
    NoneDefined t ∧ t &&& 0xF8 ≠ 0x08 ∧ t &&& 0xF0 ≠ 0x10 ∧ t &&& 0xE0 ≠ 0x20 ∧ t &&& 0xC0 ≠ 0x40 ∧
      t.extractLsb' 0 7 = l := by decide

theorem token (d r : Octet) (x : List Octet) : Statement (.token d r x) := rfl
theorem pfm (d r : Octet) (x : List Octet) : Statement (.pfm d r x) := rfl
theorem rpfm (d r : Octet) (x : List Octet) : Statement (.rpfm d r x) := rfl
theorem treq (d r : Octet) (x : List Octet) : Statement (.treq d r x) := rfl
theorem tresp (d r : Octet) (x : List Octet) : Statement (.tresp d r x) := rfl
theorem der (d r : Octet) (x : List Octet) : Statement (.der d r x) := rfl
theorem dner (d r : Octet) (x : List Octet) : Statement (.dner d r x) := rfl
theorem rpost (d r : Octet) (x : List Octet) : Statement (.rpost d r x) := rfl

theorem unknown08 (l : BitVec 3) (d r : Octet) (x : List Octet) : Statement (.unknown08 l d r x) := by
  have h := type_08_0F l
  simp_all only [Statement, Instr.toFrame, Instr.ofFrame, if_true, if_false]
theorem unknown10 (l : BitVec 4) (d r : Octet) (x : List Octet) : Statement (.unknown10 l d r x) := by
  have h := type_10_1F l
  simp_all only [Statement, Instr.toFrame, Instr.ofFrame, if_true, if_false, ne_eq]
theorem unknown20 (l : BitVec 5) (d r : Octet) (x : List Octet) : Statement (.unknown20 l d r x) := by
  have h := type_20_3F l
  simp_all only [Statement, Instr.toFrame, Instr.ofFrame, if_true, if_false, ne_eq]
theorem unknown40 (l : BitVec 6) (d r : Octet) (x : List Octet) : Statement (.unknown40 l d r x) := by
  have h := type_40_7F l
  simp_all only [Statement, Instr.toFrame, Instr.ofFrame, if_true, if_false, ne_eq]
theorem unknown80 (l : BitVec 7) (d r : Octet) (x : List Octet) : Statement (.unknown80 l d r x) := by
  have h := type_80_FF l
  simp_all only [Statement, Instr.toFrame, Instr.ofFrame, if_false, ne_eq]

end Sys2Proof.Laws.Classify
end

