-- ==== Sys2Proof/Laws/Codec.lean ====
section
/-! SUPPORT. Lemmas on the codec: classification of frames, the length field's two octets, the parts of
the decoder, the CRC step functions. -/

namespace Sys2Proof

theorem Instr.ofFrame_toFrame (i : Instr) : Instr.ofFrame i.toFrame = i := by
  cases i
  case unknown08 => exact Laws.Classify.unknown08 ..
  case unknown10 => exact Laws.Classify.unknown10 ..
  case unknown20 => exact Laws.Classify.unknown20 ..
  case unknown40 => exact Laws.Classify.unknown40 ..
  case unknown80 => exact Laws.Classify.unknown80 ..
  all_goals rfl

/-- The row of a frame depends on its type alone. -/
theorem Instr.ofFrame_mnemonic (f : Frame) :
    (Instr.ofFrame f).mnemonic = (Instr.ofFrame ⟨f.type, 0, 0, []⟩).mnemonic := by
  simp only [Instr.ofFrame, apply_ite Instr.mnemonic]
  rfl

@[simp] theorem Instr.ofFrame_destination (f : Frame) : (Instr.ofFrame f).toFrame.destination = f.destination := by
  simp only [Instr.ofFrame, apply_ite Instr.toFrame, apply_ite Frame.destination]
  simp only [Instr.toFrame, ite_self]

@[simp] theorem Instr.ofFrame_source (f : Frame) : (Instr.ofFrame f).toFrame.source = f.source := by
  simp only [Instr.ofFrame, apply_ite Instr.toFrame, apply_ite Frame.source]
  simp only [Instr.toFrame, ite_self]

@[simp] theorem Instr.ofFrame_data (f : Frame) : (Instr.ofFrame f).toFrame.data = f.data := by
  simp only [Instr.ofFrame, apply_ite Instr.toFrame, apply_ite Frame.data]
  simp only [Instr.toFrame, ite_self]

theorem Instr.ofFrame_type (f : Frame) :
    (Instr.ofFrame f).toFrame.type = (Instr.ofFrame ⟨f.type, 0, 0, []⟩).toFrame.type := by
  simp only [Instr.ofFrame, apply_ite Instr.toFrame, apply_ite Frame.type]
  simp only [Instr.toFrame]

@[simp] theorem Instr.toFrame_data (i : Instr) : i.toFrame.data = i.data := by cases i <;> rfl

/-- The two length octets carry the whole word (R59). -/
theorem frameLength_octets (w : Word16) : frameLength (highOctet w) (lowOctet w) = w := by
  ext i hi
  by_cases h : i < 8
  · simp [frameLength, highOctet, lowOctet, h, hi]
  · have h8 : i - 8 < 8 := by omega
    have hi8 : 8 + (i - 8) = i := by omega
    simp [frameLength, highOctet, lowOctet, h, hi, h8, hi8]

theorem highOctet_frameLength (h l : Octet) : highOctet (frameLength h l) = h := by
  ext i hi
  have h1 : 8 + i < 16 := by omega
  have h2 : i < 16 := by omega
  simp [frameLength, highOctet, hi, h1, h2]

theorem lowOctet_frameLength (h l : Octet) : lowOctet (frameLength h l) = l := by
  ext i hi
  simp [frameLength, lowOctet]

/-! ## Octets of a word, and what a CRC step reads -/

/-- The high octet, as the shift of the data CRC step leaves it. -/
theorem shiftRight_eight (w : Word16) : w >>> 8 = (highOctet w).setWidth 16 := by
  ext i hi
  by_cases h : i < 8
  · simp [highOctet, h, hi]
  · simp [highOctet, h, hi, BitVec.getLsbD_of_ge w (8 + i) (by omega)]

/-- Two words are equal when their octets are. -/
theorem word_ext (a b : Word16) : a = b ↔ highOctet a = highOctet b ∧ lowOctet a = lowOctet b := by
  constructor
  · rintro rfl; simp
  · rintro ⟨h1, h2⟩; rw [← frameLength_octets a, ← frameLength_octets b, h1, h2]

theorem lowOctet_not (w : Word16) : lowOctet (~~~ w) = ~~~ lowOctet w := by
  ext i hi; simp [lowOctet]

theorem highOctet_not (w : Word16) : highOctet (~~~ w) = ~~~ highOctet w := by
  ext i hi
  have : 8 + i < 16 := by omega
  simp [highOctet, this]

theorem lowOctet_widen_xor (x : Octet) (w : Word16) : lowOctet (x.setWidth 16 ^^^ w) = x ^^^ lowOctet w := by
  ext i hi; simp [lowOctet]

theorem highOctet_widen_xor (x : Octet) (w : Word16) : highOctet (x.setWidth 16 ^^^ w) = highOctet w := by
  ext i hi; simp [highOctet]

/-- A default header CRC step depends only on the exclusive OR of the register and the octet (R63). -/
theorem defaultHdrCrcStep_xor (d c : Octet) : defaultHdrCrcStep d c = defaultHdrCrcStep (c ^^^ d) 0#8 := by
  simp only [defaultHdrCrcStep, BitVec.zero_xor]

/-- A default data CRC step is a function of the low octet's exclusive OR with the octet, over the shifted high octet (R64). -/
theorem defaultDataCrcStep_split (d : Octet) (c : Word16) :
    defaultDataCrcStep d c = (c >>> 8) ^^^ defaultDataCrcStep (lowOctet c ^^^ d) 0#16 := by
  have low : c &&& 255 = (lowOctet c).setWidth 16 := by
    apply BitVec.eq_of_toNat_eq
    have h := Nat.and_two_pow_sub_one_eq_mod c.toNat 8
    simp [lowOctet] at h ⊢
    omega
  simp only [defaultDataCrcStep, low, ← BitVec.setWidth_xor]
  simp [BitVec.xor_assoc]

/-! ## The CRC parameters as arguments -/

/-- At default the final complement is the ones' complement (R69). -/
theorem headerCrc_default (header : List Octet) :
    headerCrc Config.defaultCodec header = ~~~ hdrCrcRegister Config.defaultCodec header :=
  BitVec.xor_allOnes

/-- At default the final complement is the ones' complement (R71). -/
theorem dataCrc_default (data : List Octet) :
    dataCrc Config.defaultCodec data = ~~~ dataCrcRegister Config.defaultCodec data :=
  BitVec.xor_allOnes

/-- A table that lists a function's values at some points answers them there. -/
theorem lookup_table {α β : Type} [BEq α] [LawfulBEq α] (f : α → β) (a : α) (points : List α) (h : a ∈ points) :
    (points.map fun x => (x, f x)).lookup a = some (f a) := by
  induction points with
  | nil => cases h
  | cons b rest ih =>
    rw [List.map_cons, List.lookup_cons]
    by_cases hb : a = b
    · subst hb; simp
    · have : (a == b) = false := by simp [hb]
      rw [this]
      exact ih ((List.mem_cons.mp h).resolve_left hb)

/-- Every pair of an octet and a register value. -/
abbrev allPoints (w : Nat) : List (Octet × BitVec w) :=
  (List.range (2 ^ 8)).flatMap fun d => (List.range (2 ^ w)).map fun c => (BitVec.ofNat 8 d, BitVec.ofNat w c)

theorem mem_allPoints {w : Nat} (p : Octet × BitVec w) : p ∈ allPoints w := by
  refine List.mem_flatMap.mpr ⟨p.1.toNat, List.mem_range.mpr p.1.isLt, List.mem_map.mpr ⟨p.2.toNat, ?_⟩⟩
  exact ⟨List.mem_range.mpr p.2.isLt, Prod.ext (by simp) (by simp)⟩

/-- Every function of R63's type is the `HDR_CRC_STEP` of some parameters (R4). -/
theorem hdrCrcStep_any (k : Config.Codec) (f : Octet → Octet → Octet) :
    ∃ points, ∀ d c, hdrCrcStep { k with hdrCrcPoints := points } d c = f d c :=
  ⟨(allPoints 8).map fun p => (p, f p.1 p.2), fun d c => by
    simp only [hdrCrcStep, lookup_table (fun p : Octet × Octet => f p.1 p.2) (d, c) (allPoints 8) (mem_allPoints _),
      Option.getD_some]⟩

/-- Every function of R64's type is the `DATA_CRC_STEP` of some parameters (R4). -/
theorem dataCrcStep_any (k : Config.Codec) (f : Octet → Word16 → Word16) :
    ∃ points, ∀ d c, dataCrcStep { k with dataCrcPoints := points } d c = f d c :=
  ⟨(allPoints 16).map fun p => (p, f p.1 p.2), fun d c => by
    simp only [dataCrcStep, lookup_table (fun p : Octet × Word16 => f p.1 p.2) (d, c) (allPoints 16) (mem_allPoints _),
      Option.getD_some]⟩

end Sys2Proof
end

