-- ==== Sys2Proof/Laws/State.lean ====
section
/-! SUPPORT. One lemma per field of State per named update, each true by rfl and tagged simp, so that no proof unfolds a
record update. -/

namespace Sys2Proof.Machine

@[simp] theorem State.recordValid_params (s : State) (f : Frame) : (s.recordValid f).params = s.params := rfl
@[simp] theorem State.recordValid_cfg (s : State) (f : Frame) : (s.recordValid f).cfg = s.cfg := rfl
@[simp] theorem State.recordValid_seq (s : State) (f : Frame) : (s.recordValid f).seq = s.seq := rfl
@[simp] theorem State.recordValid_eventCount (s : State) (f : Frame) :
    (s.recordValid f).eventCount = s.eventCount := rfl
@[simp] theorem State.recordValid_rx (s : State) (f : Frame) :
    (s.recordValid f).rx = { s.rx with frame := some f, receivedValidFrame := true } := rfl
@[simp] theorem State.recordValid_buf (s : State) (f : Frame) : (s.recordValid f).buf = s.buf := rfl
@[simp] theorem State.recordValid_lifecycle (s : State) (f : Frame) : (s.recordValid f).lifecycle = s.lifecycle := rfl
@[simp] theorem State.recordValid_env (s : State) (f : Frame) : (s.recordValid f).env = s.env := rfl

@[simp] theorem State.recordInvalid_params (s : State) (c : InvalidCause) : (s.recordInvalid c).params = s.params := rfl
@[simp] theorem State.recordInvalid_cfg (s : State) (c : InvalidCause) : (s.recordInvalid c).cfg = s.cfg := rfl
@[simp] theorem State.recordInvalid_seq (s : State) (c : InvalidCause) : (s.recordInvalid c).seq = s.seq := rfl
@[simp] theorem State.recordInvalid_eventCount (s : State) (c : InvalidCause) :
    (s.recordInvalid c).eventCount = s.eventCount := rfl
@[simp] theorem State.recordInvalid_rx (s : State) (c : InvalidCause) :
    (s.recordInvalid c).rx = { s.rx with receivedInvalidFrame := some c } := rfl
@[simp] theorem State.recordInvalid_buf (s : State) (c : InvalidCause) : (s.recordInvalid c).buf = s.buf := rfl
@[simp] theorem State.recordInvalid_lifecycle (s : State) (c : InvalidCause) :
    (s.recordInvalid c).lifecycle = s.lifecycle := rfl
@[simp] theorem State.recordInvalid_env (s : State) (c : InvalidCause) : (s.recordInvalid c).env = s.env := rfl

@[simp] theorem State.consumeValid_params (s : State) : (s.consumeValid).params = s.params := rfl
@[simp] theorem State.consumeValid_cfg (s : State) : (s.consumeValid).cfg = s.cfg := rfl
@[simp] theorem State.consumeValid_seq (s : State) : (s.consumeValid).seq = s.seq := rfl
@[simp] theorem State.consumeValid_eventCount (s : State) : (s.consumeValid).eventCount = s.eventCount := rfl
@[simp] theorem State.consumeValid_rx (s : State) :
    (s.consumeValid).rx = { s.rx with receivedValidFrame := false } := rfl
@[simp] theorem State.consumeValid_buf (s : State) : (s.consumeValid).buf = s.buf := rfl
@[simp] theorem State.consumeValid_lifecycle (s : State) : (s.consumeValid).lifecycle = s.lifecycle := rfl
@[simp] theorem State.consumeValid_env (s : State) : (s.consumeValid).env = s.env := rfl

@[simp] theorem State.consumeInvalid_params (s : State) : (s.consumeInvalid).params = s.params := rfl
@[simp] theorem State.consumeInvalid_cfg (s : State) : (s.consumeInvalid).cfg = s.cfg := rfl
@[simp] theorem State.consumeInvalid_seq (s : State) : (s.consumeInvalid).seq = s.seq := rfl
@[simp] theorem State.consumeInvalid_eventCount (s : State) : (s.consumeInvalid).eventCount = s.eventCount := rfl
@[simp] theorem State.consumeInvalid_rx (s : State) :
    (s.consumeInvalid).rx = { s.rx with receivedInvalidFrame := none } := rfl
@[simp] theorem State.consumeInvalid_buf (s : State) : (s.consumeInvalid).buf = s.buf := rfl
@[simp] theorem State.consumeInvalid_lifecycle (s : State) : (s.consumeInvalid).lifecycle = s.lifecycle := rfl
@[simp] theorem State.consumeInvalid_env (s : State) : (s.consumeInvalid).env = s.env := rfl

@[simp] theorem State.sendFrame_params (s : State) (t d : Octet) (x : List Octet) :
    (s.sendFrame t d x).params = s.params := rfl
@[simp] theorem State.sendFrame_cfg (s : State) (t d : Octet) (x : List Octet) : (s.sendFrame t d x).cfg = s.cfg := rfl
@[simp] theorem State.sendFrame_seq (s : State) (t d : Octet) (x : List Octet) : (s.sendFrame t d x).seq = s.seq := rfl
@[simp] theorem State.sendFrame_eventCount (s : State) (t d : Octet) (x : List Octet) :
    (s.sendFrame t d x).eventCount = s.eventCount := rfl
@[simp] theorem State.sendFrame_rx (s : State) (t d : Octet) (x : List Octet) :
    (s.sendFrame t d x).rx = { s.rx with lastNonSilence := s.env.now } := rfl
@[simp] theorem State.sendFrame_buf (s : State) (t d : Octet) (x : List Octet) : (s.sendFrame t d x).buf = s.buf := rfl
@[simp] theorem State.sendFrame_lifecycle (s : State) (t d : Octet) (x : List Octet) :
    (s.sendFrame t d x).lifecycle = s.lifecycle := rfl
@[simp] theorem State.sendFrame_env (s : State) (t d : Octet) (x : List Octet) :
    (s.sendFrame t d x).env = { s.env with
      transmitted := s.env.transmitted ++ [⟨s.env.now, encodeFrame s.params.codec ⟨t, d, s.cfg.thisStation, x⟩⟩] } := rfl

@[simp] theorem State.deliver_params (s : State) (d : Delivery) : (s.deliver d).params = s.params := rfl
@[simp] theorem State.deliver_cfg (s : State) (d : Delivery) : (s.deliver d).cfg = s.cfg := rfl
@[simp] theorem State.deliver_seq (s : State) (d : Delivery) : (s.deliver d).seq = s.seq := rfl
@[simp] theorem State.deliver_eventCount (s : State) (d : Delivery) : (s.deliver d).eventCount = s.eventCount := rfl
@[simp] theorem State.deliver_rx (s : State) (d : Delivery) : (s.deliver d).rx = s.rx := rfl
@[simp] theorem State.deliver_buf (s : State) (d : Delivery) : (s.deliver d).buf = s.buf := rfl
@[simp] theorem State.deliver_lifecycle (s : State) (d : Delivery) : (s.deliver d).lifecycle = s.lifecycle := rfl
@[simp] theorem State.deliver_env (s : State) (d : Delivery) :
    (s.deliver d).env = { s.env with delivered := s.env.delivered ++ [⟨s.env.now, d⟩] } := rfl

@[simp] theorem State.publish_params (s : State) : (s.publish).params = s.params := rfl
@[simp] theorem State.publish_cfg (s : State) : (s.publish).cfg = s.cfg := rfl
@[simp] theorem State.publish_seq (s : State) : (s.publish).seq = s.seq := rfl
@[simp] theorem State.publish_eventCount (s : State) : (s.publish).eventCount = s.eventCount := rfl
@[simp] theorem State.publish_rx (s : State) : (s.publish).rx = s.rx := rfl
@[simp] theorem State.publish_buf (s : State) : (s.publish).buf = s.buf := rfl
@[simp] theorem State.publish_lifecycle (s : State) : (s.publish).lifecycle = s.lifecycle := rfl
@[simp] theorem State.publish_env (s : State) :
    (s.publish).env = { s.env with
      published := s.env.published ++ [⟨s.env.now, s.cfg.maxMaster.toNat, s.cfg.maxInfoFrames⟩] } := rfl

@[simp] theorem State.returnTo_params (s : State) (op : HostOp) (r : HostResult) :
    (s.returnTo op r).params = s.params := rfl
@[simp] theorem State.returnTo_cfg (s : State) (op : HostOp) (r : HostResult) : (s.returnTo op r).cfg = s.cfg := rfl
@[simp] theorem State.returnTo_seq (s : State) (op : HostOp) (r : HostResult) : (s.returnTo op r).seq = s.seq := rfl
@[simp] theorem State.returnTo_eventCount (s : State) (op : HostOp) (r : HostResult) :
    (s.returnTo op r).eventCount = s.eventCount := rfl
@[simp] theorem State.returnTo_rx (s : State) (op : HostOp) (r : HostResult) : (s.returnTo op r).rx = s.rx := rfl
@[simp] theorem State.returnTo_buf (s : State) (op : HostOp) (r : HostResult) : (s.returnTo op r).buf = s.buf := rfl
@[simp] theorem State.returnTo_lifecycle (s : State) (op : HostOp) (r : HostResult) :
    (s.returnTo op r).lifecycle = s.lifecycle := rfl
@[simp] theorem State.returnTo_env (s : State) (op : HostOp) (r : HostResult) :
    (s.returnTo op r).env = { s.env with returned := s.env.returned ++ [⟨op, r⟩] } := rfl

@[simp] theorem State.raiseConfigFault_params (s : State) (op : HostOp) (c : ConfigFault) :
    (s.raiseConfigFault op c).params = s.params := rfl
@[simp] theorem State.raiseConfigFault_cfg (s : State) (op : HostOp) (c : ConfigFault) :
    (s.raiseConfigFault op c).cfg = s.cfg := rfl
@[simp] theorem State.raiseConfigFault_seq (s : State) (op : HostOp) (c : ConfigFault) :
    (s.raiseConfigFault op c).seq = s.seq := rfl
@[simp] theorem State.raiseConfigFault_eventCount (s : State) (op : HostOp) (c : ConfigFault) :
    (s.raiseConfigFault op c).eventCount = s.eventCount := rfl
@[simp] theorem State.raiseConfigFault_rx (s : State) (op : HostOp) (c : ConfigFault) :
    (s.raiseConfigFault op c).rx = s.rx := rfl
@[simp] theorem State.raiseConfigFault_buf (s : State) (op : HostOp) (c : ConfigFault) :
    (s.raiseConfigFault op c).buf = s.buf := rfl
@[simp] theorem State.raiseConfigFault_lifecycle (s : State) (op : HostOp) (c : ConfigFault) :
    (s.raiseConfigFault op c).lifecycle = s.lifecycle := rfl
@[simp] theorem State.raiseConfigFault_env (s : State) (op : HostOp) (c : ConfigFault) :
    (s.raiseConfigFault op c).env = { s.env with returned := s.env.returned ++ [⟨op, .configFault c⟩] } := rfl

@[simp] theorem State.goto_params (s : State) (m : MasterState) : (s.goto m).params = s.params := rfl
@[simp] theorem State.goto_cfg (s : State) (m : MasterState) : (s.goto m).cfg = s.cfg := rfl
@[simp] theorem State.goto_seq (s : State) (m : MasterState) : (s.goto m).seq = { s.seq with state := m } := rfl
@[simp] theorem State.goto_eventCount (s : State) (m : MasterState) : (s.goto m).eventCount = s.eventCount := rfl
@[simp] theorem State.goto_rx (s : State) (m : MasterState) : (s.goto m).rx = s.rx := rfl
@[simp] theorem State.goto_buf (s : State) (m : MasterState) : (s.goto m).buf = s.buf := rfl
@[simp] theorem State.goto_lifecycle (s : State) (m : MasterState) : (s.goto m).lifecycle = s.lifecycle := rfl
@[simp] theorem State.goto_env (s : State) (m : MasterState) : (s.goto m).env = s.env := rfl

@[simp] theorem State.setPhase_params (s : State) (p : Phase) : (s.setPhase p).params = s.params := rfl
@[simp] theorem State.setPhase_cfg (s : State) (p : Phase) : (s.setPhase p).cfg = s.cfg := rfl
@[simp] theorem State.setPhase_seq (s : State) (p : Phase) : (s.setPhase p).seq = { s.seq with phase := p } := rfl
@[simp] theorem State.setPhase_eventCount (s : State) (p : Phase) : (s.setPhase p).eventCount = s.eventCount := rfl
@[simp] theorem State.setPhase_rx (s : State) (p : Phase) : (s.setPhase p).rx = s.rx := rfl
@[simp] theorem State.setPhase_buf (s : State) (p : Phase) : (s.setPhase p).buf = s.buf := rfl
@[simp] theorem State.setPhase_lifecycle (s : State) (p : Phase) : (s.setPhase p).lifecycle = s.lifecycle := rfl
@[simp] theorem State.setPhase_env (s : State) (p : Phase) : (s.setPhase p).env = s.env := rfl

@[simp] theorem State.resetCounters_params (s : State) : (s.resetCounters).params = s.params := rfl
@[simp] theorem State.resetCounters_cfg (s : State) : (s.resetCounters).cfg = s.cfg := rfl
@[simp] theorem State.resetCounters_seq (s : State) :
    (s.resetCounters).seq = { s.seq with retryCount := 0, tokenCount := 0 } := rfl
@[simp] theorem State.resetCounters_eventCount (s : State) : (s.resetCounters).eventCount = 0 := rfl
@[simp] theorem State.resetCounters_rx (s : State) : (s.resetCounters).rx = s.rx := rfl
@[simp] theorem State.resetCounters_buf (s : State) : (s.resetCounters).buf = s.buf := rfl
@[simp] theorem State.resetCounters_lifecycle (s : State) : (s.resetCounters).lifecycle = s.lifecycle := rfl
@[simp] theorem State.resetCounters_env (s : State) : (s.resetCounters).env = s.env := rfl

@[simp] theorem State.pollFor_params (s : State) (x : Octet) : (s.pollFor x).params = s.params := rfl
@[simp] theorem State.pollFor_cfg (s : State) (x : Octet) : (s.pollFor x).cfg = s.cfg := rfl
@[simp] theorem State.pollFor_seq (s : State) (x : Octet) : (s.pollFor x).seq = { s.seq with pollStation := x } := rfl
@[simp] theorem State.pollFor_eventCount (s : State) (x : Octet) : (s.pollFor x).eventCount = s.eventCount := rfl
@[simp] theorem State.pollFor_rx (s : State) (x : Octet) :
    (s.pollFor x).rx = { s.rx with lastNonSilence := s.env.now } := rfl
@[simp] theorem State.pollFor_buf (s : State) (x : Octet) : (s.pollFor x).buf = s.buf := rfl
@[simp] theorem State.pollFor_lifecycle (s : State) (x : Octet) : (s.pollFor x).lifecycle = s.lifecycle := rfl
@[simp] theorem State.pollFor_env (s : State) (x : Octet) :
    (s.pollFor x).env = { s.env with
      transmitted := s.env.transmitted ++ [⟨s.env.now, encodeFrame s.params.codec ⟨typePfm, x, s.cfg.thisStation, []⟩⟩] } := rfl

@[simp] theorem State.sendToken_params (s : State) : (s.sendToken).params = s.params := rfl
@[simp] theorem State.sendToken_cfg (s : State) : (s.sendToken).cfg = s.cfg := rfl
@[simp] theorem State.sendToken_seq (s : State) : (s.sendToken).seq = s.seq := rfl
@[simp] theorem State.sendToken_eventCount (s : State) : (s.sendToken).eventCount = s.eventCount := rfl
@[simp] theorem State.sendToken_rx (s : State) : (s.sendToken).rx = { s.rx with lastNonSilence := s.env.now } := rfl
@[simp] theorem State.sendToken_buf (s : State) : (s.sendToken).buf = s.buf := rfl
@[simp] theorem State.sendToken_lifecycle (s : State) : (s.sendToken).lifecycle = s.lifecycle := rfl
@[simp] theorem State.sendToken_env (s : State) :
    (s.sendToken).env = { s.env with
      transmitted :=
        s.env.transmitted ++ [⟨s.env.now, encodeFrame s.params.codec ⟨typeToken, s.seq.nextStation, s.cfg.thisStation, []⟩⟩] } := rfl

@[simp] theorem State.pushFrame_params (s : State) (f : Frame) : (s.pushFrame f).params = s.params := rfl
@[simp] theorem State.pushFrame_cfg (s : State) (f : Frame) : (s.pushFrame f).cfg = s.cfg := rfl
@[simp] theorem State.pushFrame_seq (s : State) (f : Frame) : (s.pushFrame f).seq = s.seq := rfl
@[simp] theorem State.pushFrame_eventCount (s : State) (f : Frame) : (s.pushFrame f).eventCount = s.eventCount := rfl
@[simp] theorem State.pushFrame_rx (s : State) (f : Frame) : (s.pushFrame f).rx = s.rx := rfl
@[simp] theorem State.pushFrame_buf (s : State) (f : Frame) :
    (s.pushFrame f).buf = { s.buf with framesToSend := s.buf.framesToSend ++ [f] } := rfl
@[simp] theorem State.pushFrame_lifecycle (s : State) (f : Frame) : (s.pushFrame f).lifecycle = s.lifecycle := rfl
@[simp] theorem State.pushFrame_env (s : State) (f : Frame) : (s.pushFrame f).env = s.env := rfl

@[simp] theorem State.holdCall_params (s : State) (op : HostOp) (f : Frame) : (s.holdCall op f).params = s.params := rfl
@[simp] theorem State.holdCall_cfg (s : State) (op : HostOp) (f : Frame) : (s.holdCall op f).cfg = s.cfg := rfl
@[simp] theorem State.holdCall_seq (s : State) (op : HostOp) (f : Frame) : (s.holdCall op f).seq = s.seq := rfl
@[simp] theorem State.holdCall_eventCount (s : State) (op : HostOp) (f : Frame) :
    (s.holdCall op f).eventCount = s.eventCount := rfl
@[simp] theorem State.holdCall_rx (s : State) (op : HostOp) (f : Frame) : (s.holdCall op f).rx = s.rx := rfl
@[simp] theorem State.holdCall_buf (s : State) (op : HostOp) (f : Frame) : (s.holdCall op f).buf = s.buf := rfl
@[simp] theorem State.holdCall_lifecycle (s : State) (op : HostOp) (f : Frame) :
    (s.holdCall op f).lifecycle = s.lifecycle := rfl
@[simp] theorem State.holdCall_env (s : State) (op : HostOp) (f : Frame) :
    (s.holdCall op f).env = { s.env with waiting := s.env.waiting ++ [⟨op, f⟩] } := rfl

@[simp] theorem State.resetParser_params (s : State) : (s.resetParser).params = s.params := rfl
@[simp] theorem State.resetParser_cfg (s : State) : (s.resetParser).cfg = s.cfg := rfl
@[simp] theorem State.resetParser_seq (s : State) : (s.resetParser).seq = s.seq := rfl
@[simp] theorem State.resetParser_eventCount (s : State) : (s.resetParser).eventCount = s.eventCount := rfl
@[simp] theorem State.resetParser_rx (s : State) :
    (s.resetParser).rx = { s.rx with rxState := .idle, rxHeader := [], rxData := [], rxLen := 0 } := rfl
@[simp] theorem State.resetParser_buf (s : State) : (s.resetParser).buf = s.buf := rfl
@[simp] theorem State.resetParser_lifecycle (s : State) : (s.resetParser).lifecycle = s.lifecycle := rfl
@[simp] theorem State.resetParser_env (s : State) : (s.resetParser).env = s.env := rfl

@[simp] theorem State.atTime_params (s : State) (t : Int) : (s.atTime t).params = s.params := rfl
@[simp] theorem State.atTime_cfg (s : State) (t : Int) : (s.atTime t).cfg = s.cfg := rfl
@[simp] theorem State.atTime_seq (s : State) (t : Int) : (s.atTime t).seq = s.seq := rfl
@[simp] theorem State.atTime_eventCount (s : State) (t : Int) : (s.atTime t).eventCount = s.eventCount := rfl
@[simp] theorem State.atTime_rx (s : State) (t : Int) : (s.atTime t).rx = s.rx := rfl
@[simp] theorem State.atTime_buf (s : State) (t : Int) : (s.atTime t).buf = s.buf := rfl
@[simp] theorem State.atTime_lifecycle (s : State) (t : Int) : (s.atTime t).lifecycle = s.lifecycle := rfl
@[simp] theorem State.atTime_env (s : State) (t : Int) : (s.atTime t).env = { s.env with now := t } := rfl

@[simp] theorem State.receiveOctets_params (s : State) (b : List Octet) : (s.receiveOctets b).params = s.params := rfl
@[simp] theorem State.receiveOctets_cfg (s : State) (b : List Octet) : (s.receiveOctets b).cfg = s.cfg := rfl
@[simp] theorem State.receiveOctets_seq (s : State) (b : List Octet) : (s.receiveOctets b).seq = s.seq := rfl
@[simp] theorem State.receiveOctets_eventCount (s : State) (b : List Octet) :
    (s.receiveOctets b).eventCount = s.eventCount := rfl
@[simp] theorem State.receiveOctets_rx (s : State) (b : List Octet) : (s.receiveOctets b).rx = s.rx := rfl
@[simp] theorem State.receiveOctets_buf (s : State) (b : List Octet) : (s.receiveOctets b).buf = s.buf := rfl
@[simp] theorem State.receiveOctets_lifecycle (s : State) (b : List Octet) :
    (s.receiveOctets b).lifecycle = s.lifecycle := rfl
@[simp] theorem State.receiveOctets_env (s : State) (b : List Octet) :
    (s.receiveOctets b).env = { s.env with inputFifo := s.env.inputFifo ++ b } := rfl

end Sys2Proof.Machine
end

