-- ==== Sys2Proof/Laws/Transitions.lean ====
section
/-! SUPPORT. One lemma per field of State per transition of the sequencer, each true by rfl and tagged simp. -/

namespace Sys2Proof.Machine

@[simp] theorem State.acceptToken_params (s : State) : (s.acceptToken).params = s.params := rfl
@[simp] theorem State.acceptToken_cfg (s : State) : (s.acceptToken).cfg = s.cfg := rfl
@[simp] theorem State.acceptToken_seq (s : State) :
    (s.acceptToken).seq = { s.seq with receivedToken := true, frameCount := 0, soleMaster := false, state := .useToken } := rfl
@[simp] theorem State.acceptToken_eventCount (s : State) : (s.acceptToken).eventCount = s.eventCount := rfl
@[simp] theorem State.acceptToken_rx (s : State) : (s.acceptToken).rx = s.rx := rfl
@[simp] theorem State.acceptToken_buf (s : State) : (s.acceptToken).buf = s.buf := rfl
@[simp] theorem State.acceptToken_lifecycle (s : State) : (s.acceptToken).lifecycle = s.lifecycle := rfl
@[simp] theorem State.acceptToken_env (s : State) : (s.acceptToken).env = s.env := rfl

@[simp] theorem State.acceptSuccessor_params (s : State) (r : Octet) : (s.acceptSuccessor r).params = s.params := rfl
@[simp] theorem State.acceptSuccessor_cfg (s : State) (r : Octet) : (s.acceptSuccessor r).cfg = s.cfg := rfl
@[simp] theorem State.acceptSuccessor_seq (s : State) (r : Octet) :
    (s.acceptSuccessor r).seq = { s.seq with
      soleMaster := false, nextStation := r, pollStation := s.cfg.thisStation, retryCount := 0, tokenCount := 0,
      state := .passToken } := rfl
@[simp] theorem State.acceptSuccessor_eventCount (s : State) (r : Octet) : (s.acceptSuccessor r).eventCount = 0 := rfl
@[simp] theorem State.acceptSuccessor_rx (s : State) (r : Octet) :
    (s.acceptSuccessor r).rx = { s.rx with lastNonSilence := s.env.now } := rfl
@[simp] theorem State.acceptSuccessor_buf (s : State) (r : Octet) : (s.acceptSuccessor r).buf = s.buf := rfl
@[simp] theorem State.acceptSuccessor_lifecycle (s : State) (r : Octet) :
    (s.acceptSuccessor r).lifecycle = s.lifecycle := rfl
@[simp] theorem State.acceptSuccessor_env (s : State) (r : Octet) :
    (s.acceptSuccessor r).env = { s.env with
      transmitted :=
        s.env.transmitted ++ [⟨s.env.now, encodeFrame s.params.codec ⟨typeToken, r, s.cfg.thisStation, []⟩⟩] } := rfl

@[simp] theorem State.takeRequest_params (s : State) (f : Frame) : (s.takeRequest f).params = s.params := rfl
@[simp] theorem State.takeRequest_cfg (s : State) (f : Frame) : (s.takeRequest f).cfg = s.cfg := rfl
@[simp] theorem State.takeRequest_seq (s : State) (f : Frame) :
    (s.takeRequest f).seq = { s.seq with phase := .idleDerTail f.source } := rfl
@[simp] theorem State.takeRequest_eventCount (s : State) (f : Frame) :
    (s.takeRequest f).eventCount = s.eventCount := rfl
@[simp] theorem State.takeRequest_rx (s : State) (f : Frame) : (s.takeRequest f).rx = s.rx := rfl
@[simp] theorem State.takeRequest_buf (s : State) (f : Frame) : (s.takeRequest f).buf = s.buf := rfl
@[simp] theorem State.takeRequest_lifecycle (s : State) (f : Frame) : (s.takeRequest f).lifecycle = s.lifecycle := rfl
@[simp] theorem State.takeRequest_env (s : State) (f : Frame) :
    (s.takeRequest f).env = { s.env with delivered := s.env.delivered ++ [⟨s.env.now, .needingReply f⟩] } := rfl

@[simp] theorem State.endPossession_params (s : State) : (s.endPossession).params = s.params := rfl
@[simp] theorem State.endPossession_cfg (s : State) : (s.endPossession).cfg = s.cfg := rfl
@[simp] theorem State.endPossession_seq (s : State) :
    (s.endPossession).seq = { s.seq with frameCount := s.cfg.maxInfoFrames, state := .doneWithToken } := rfl
@[simp] theorem State.endPossession_eventCount (s : State) : (s.endPossession).eventCount = s.eventCount := rfl
@[simp] theorem State.endPossession_rx (s : State) : (s.endPossession).rx = s.rx := rfl
@[simp] theorem State.endPossession_buf (s : State) : (s.endPossession).buf = s.buf := rfl
@[simp] theorem State.endPossession_lifecycle (s : State) : (s.endPossession).lifecycle = s.lifecycle := rfl
@[simp] theorem State.endPossession_env (s : State) : (s.endPossession).env = s.env := rfl

@[simp] theorem State.pollFirst_params (s : State) : (s.pollFirst).params = s.params := rfl
@[simp] theorem State.pollFirst_cfg (s : State) : (s.pollFirst).cfg = s.cfg := rfl
@[simp] theorem State.pollFirst_seq (s : State) :
    (s.pollFirst).seq = { s.seq with
      pollStation := s.adjacent s.cfg.thisStation, retryCount := 0, state := .pollForMaster } := rfl
@[simp] theorem State.pollFirst_eventCount (s : State) : (s.pollFirst).eventCount = s.eventCount := rfl
@[simp] theorem State.pollFirst_rx (s : State) : (s.pollFirst).rx = { s.rx with lastNonSilence := s.env.now } := rfl
@[simp] theorem State.pollFirst_buf (s : State) : (s.pollFirst).buf = s.buf := rfl
@[simp] theorem State.pollFirst_lifecycle (s : State) : (s.pollFirst).lifecycle = s.lifecycle := rfl
@[simp] theorem State.pollFirst_env (s : State) :
    (s.pollFirst).env = { s.env with
      transmitted :=
        s.env.transmitted ++ [⟨s.env.now, encodeFrame s.params.codec ⟨typePfm, s.adjacent s.cfg.thisStation, s.cfg.thisStation, []⟩⟩] } := rfl

@[simp] theorem State.keepToken_params (s : State) : (s.keepToken).params = s.params := rfl
@[simp] theorem State.keepToken_cfg (s : State) : (s.keepToken).cfg = s.cfg := rfl
@[simp] theorem State.keepToken_seq (s : State) :
    (s.keepToken).seq = { s.seq with frameCount := 0, tokenCount := s.seq.tokenCount + 1, state := .useToken } := rfl
@[simp] theorem State.keepToken_eventCount (s : State) : (s.keepToken).eventCount = s.eventCount := rfl
@[simp] theorem State.keepToken_rx (s : State) : (s.keepToken).rx = s.rx := rfl
@[simp] theorem State.keepToken_buf (s : State) : (s.keepToken).buf = s.buf := rfl
@[simp] theorem State.keepToken_lifecycle (s : State) : (s.keepToken).lifecycle = s.lifecycle := rfl
@[simp] theorem State.keepToken_env (s : State) : (s.keepToken).env = s.env := rfl

@[simp] theorem State.passToken_params (s : State) : (s.passToken).params = s.params := rfl
@[simp] theorem State.passToken_cfg (s : State) : (s.passToken).cfg = s.cfg := rfl
@[simp] theorem State.passToken_seq (s : State) :
    (s.passToken).seq = { s.seq with tokenCount := s.seq.tokenCount + 1, retryCount := 0, state := .passToken } := rfl
@[simp] theorem State.passToken_eventCount (s : State) : (s.passToken).eventCount = 0 := rfl
@[simp] theorem State.passToken_rx (s : State) : (s.passToken).rx = { s.rx with lastNonSilence := s.env.now } := rfl
@[simp] theorem State.passToken_buf (s : State) : (s.passToken).buf = s.buf := rfl
@[simp] theorem State.passToken_lifecycle (s : State) : (s.passToken).lifecycle = s.lifecycle := rfl
@[simp] theorem State.passToken_env (s : State) :
    (s.passToken).env = { s.env with
      transmitted :=
        s.env.transmitted ++ [⟨s.env.now, encodeFrame s.params.codec ⟨typeToken, s.seq.nextStation, s.cfg.thisStation, []⟩⟩] } := rfl

@[simp] theorem State.pollGap_params (s : State) : (s.pollGap).params = s.params := rfl
@[simp] theorem State.pollGap_cfg (s : State) : (s.pollGap).cfg = s.cfg := rfl
@[simp] theorem State.pollGap_seq (s : State) :
    (s.pollGap).seq = { s.seq with
      pollStation := s.adjacent s.seq.pollStation, retryCount := 0, state := .pollForMaster } := rfl
@[simp] theorem State.pollGap_eventCount (s : State) : (s.pollGap).eventCount = s.eventCount := rfl
@[simp] theorem State.pollGap_rx (s : State) : (s.pollGap).rx = { s.rx with lastNonSilence := s.env.now } := rfl
@[simp] theorem State.pollGap_buf (s : State) : (s.pollGap).buf = s.buf := rfl
@[simp] theorem State.pollGap_lifecycle (s : State) : (s.pollGap).lifecycle = s.lifecycle := rfl
@[simp] theorem State.pollGap_env (s : State) :
    (s.pollGap).env = { s.env with
      transmitted :=
        s.env.transmitted ++ [⟨s.env.now, encodeFrame s.params.codec ⟨typePfm, s.adjacent s.seq.pollStation, s.cfg.thisStation, []⟩⟩] } := rfl

@[simp] theorem State.endGap_params (s : State) : (s.endGap).params = s.params := rfl
@[simp] theorem State.endGap_cfg (s : State) : (s.endGap).cfg = s.cfg := rfl
@[simp] theorem State.endGap_seq (s : State) :
    (s.endGap).seq = { s.seq with
      pollStation := s.cfg.thisStation, retryCount := 0, tokenCount := 1, state := .passToken } := rfl
@[simp] theorem State.endGap_eventCount (s : State) : (s.endGap).eventCount = 0 := rfl
@[simp] theorem State.endGap_rx (s : State) : (s.endGap).rx = { s.rx with lastNonSilence := s.env.now } := rfl
@[simp] theorem State.endGap_buf (s : State) : (s.endGap).buf = s.buf := rfl
@[simp] theorem State.endGap_lifecycle (s : State) : (s.endGap).lifecycle = s.lifecycle := rfl
@[simp] theorem State.endGap_env (s : State) :
    (s.endGap).env = { s.env with
      transmitted :=
        s.env.transmitted ++ [⟨s.env.now, encodeFrame s.params.codec ⟨typeToken, s.seq.nextStation, s.cfg.thisStation, []⟩⟩] } := rfl

@[simp] theorem State.endGapAsSoleMaster_params (s : State) : (s.endGapAsSoleMaster).params = s.params := rfl
@[simp] theorem State.endGapAsSoleMaster_cfg (s : State) : (s.endGapAsSoleMaster).cfg = s.cfg := rfl
@[simp] theorem State.endGapAsSoleMaster_seq (s : State) :
    (s.endGapAsSoleMaster).seq = { s.seq with
      pollStation := s.adjacent s.seq.nextStation, nextStation := s.cfg.thisStation, retryCount := 0,
      tokenCount := 1, state := .pollForMaster } := rfl
@[simp] theorem State.endGapAsSoleMaster_eventCount (s : State) : (s.endGapAsSoleMaster).eventCount = 0 := rfl
@[simp] theorem State.endGapAsSoleMaster_rx (s : State) :
    (s.endGapAsSoleMaster).rx = { s.rx with lastNonSilence := s.env.now } := rfl
@[simp] theorem State.endGapAsSoleMaster_buf (s : State) : (s.endGapAsSoleMaster).buf = s.buf := rfl
@[simp] theorem State.endGapAsSoleMaster_lifecycle (s : State) : (s.endGapAsSoleMaster).lifecycle = s.lifecycle := rfl
@[simp] theorem State.endGapAsSoleMaster_env (s : State) :
    (s.endGapAsSoleMaster).env = { s.env with
      transmitted :=
        s.env.transmitted ++ [⟨s.env.now, encodeFrame s.params.codec ⟨typePfm, s.adjacent s.seq.nextStation, s.cfg.thisStation, []⟩⟩] } := rfl

@[simp] theorem State.retryToken_params (s : State) : (s.retryToken).params = s.params := rfl
@[simp] theorem State.retryToken_cfg (s : State) : (s.retryToken).cfg = s.cfg := rfl
@[simp] theorem State.retryToken_seq (s : State) :
    (s.retryToken).seq = { s.seq with retryCount := s.seq.retryCount + 1 } := rfl
@[simp] theorem State.retryToken_eventCount (s : State) : (s.retryToken).eventCount = 0 := rfl
@[simp] theorem State.retryToken_rx (s : State) : (s.retryToken).rx = { s.rx with lastNonSilence := s.env.now } := rfl
@[simp] theorem State.retryToken_buf (s : State) : (s.retryToken).buf = s.buf := rfl
@[simp] theorem State.retryToken_lifecycle (s : State) : (s.retryToken).lifecycle = s.lifecycle := rfl
@[simp] theorem State.retryToken_env (s : State) :
    (s.retryToken).env = { s.env with
      transmitted :=
        s.env.transmitted ++ [⟨s.env.now, encodeFrame s.params.codec ⟨typeToken, s.seq.nextStation, s.cfg.thisStation, []⟩⟩] } := rfl

@[simp] theorem State.findSuccessor_params (s : State) : (s.findSuccessor).params = s.params := rfl
@[simp] theorem State.findSuccessor_cfg (s : State) : (s.findSuccessor).cfg = s.cfg := rfl
@[simp] theorem State.findSuccessor_seq (s : State) :
    (s.findSuccessor).seq = { s.seq with
      pollStation := s.adjacent s.seq.nextStation, nextStation := s.cfg.thisStation, retryCount := 0,
      tokenCount := 0, state := .pollForMaster } := rfl
@[simp] theorem State.findSuccessor_eventCount (s : State) : (s.findSuccessor).eventCount = 0 := rfl
@[simp] theorem State.findSuccessor_rx (s : State) :
    (s.findSuccessor).rx = { s.rx with lastNonSilence := s.env.now } := rfl
@[simp] theorem State.findSuccessor_buf (s : State) : (s.findSuccessor).buf = s.buf := rfl
@[simp] theorem State.findSuccessor_lifecycle (s : State) : (s.findSuccessor).lifecycle = s.lifecycle := rfl
@[simp] theorem State.findSuccessor_env (s : State) :
    (s.findSuccessor).env = { s.env with
      transmitted :=
        s.env.transmitted ++ [⟨s.env.now, encodeFrame s.params.codec ⟨typePfm, s.adjacent s.seq.nextStation, s.cfg.thisStation, []⟩⟩] } := rfl

@[simp] theorem State.generateToken_params (s : State) : (s.generateToken).params = s.params := rfl
@[simp] theorem State.generateToken_cfg (s : State) : (s.generateToken).cfg = s.cfg := rfl
@[simp] theorem State.generateToken_seq (s : State) :
    (s.generateToken).seq = { s.seq with
      pollStation := s.adjacent s.cfg.thisStation, nextStation := s.cfg.thisStation, retryCount := 0,
      tokenCount := 0, state := .pollForMaster } := rfl
@[simp] theorem State.generateToken_eventCount (s : State) : (s.generateToken).eventCount = 0 := rfl
@[simp] theorem State.generateToken_rx (s : State) :
    (s.generateToken).rx = { s.rx with lastNonSilence := s.env.now } := rfl
@[simp] theorem State.generateToken_buf (s : State) : (s.generateToken).buf = s.buf := rfl
@[simp] theorem State.generateToken_lifecycle (s : State) : (s.generateToken).lifecycle = s.lifecycle := rfl
@[simp] theorem State.generateToken_env (s : State) :
    (s.generateToken).env = { s.env with
      transmitted :=
        s.env.transmitted ++ [⟨s.env.now, encodeFrame s.params.codec ⟨typePfm, s.adjacent s.cfg.thisStation, s.cfg.thisStation, []⟩⟩] } := rfl

@[simp] theorem State.passAfterPoll_params (s : State) : (s.passAfterPoll).params = s.params := rfl
@[simp] theorem State.passAfterPoll_cfg (s : State) : (s.passAfterPoll).cfg = s.cfg := rfl
@[simp] theorem State.passAfterPoll_seq (s : State) :
    (s.passAfterPoll).seq = { s.seq with retryCount := 0, state := .passToken } := rfl
@[simp] theorem State.passAfterPoll_eventCount (s : State) : (s.passAfterPoll).eventCount = 0 := rfl
@[simp] theorem State.passAfterPoll_rx (s : State) :
    (s.passAfterPoll).rx = { s.rx with lastNonSilence := s.env.now } := rfl
@[simp] theorem State.passAfterPoll_buf (s : State) : (s.passAfterPoll).buf = s.buf := rfl
@[simp] theorem State.passAfterPoll_lifecycle (s : State) : (s.passAfterPoll).lifecycle = s.lifecycle := rfl
@[simp] theorem State.passAfterPoll_env (s : State) :
    (s.passAfterPoll).env = { s.env with
      transmitted :=
        s.env.transmitted ++ [⟨s.env.now, encodeFrame s.params.codec ⟨typeToken, s.seq.nextStation, s.cfg.thisStation, []⟩⟩] } := rfl

@[simp] theorem State.pollNext_params (s : State) : (s.pollNext).params = s.params := rfl
@[simp] theorem State.pollNext_cfg (s : State) : (s.pollNext).cfg = s.cfg := rfl
@[simp] theorem State.pollNext_seq (s : State) :
    (s.pollNext).seq = { s.seq with pollStation := s.adjacent s.seq.pollStation, retryCount := 0 } := rfl
@[simp] theorem State.pollNext_eventCount (s : State) : (s.pollNext).eventCount = s.eventCount := rfl
@[simp] theorem State.pollNext_rx (s : State) : (s.pollNext).rx = { s.rx with lastNonSilence := s.env.now } := rfl
@[simp] theorem State.pollNext_buf (s : State) : (s.pollNext).buf = s.buf := rfl
@[simp] theorem State.pollNext_lifecycle (s : State) : (s.pollNext).lifecycle = s.lifecycle := rfl
@[simp] theorem State.pollNext_env (s : State) :
    (s.pollNext).env = { s.env with
      transmitted :=
        s.env.transmitted ++ [⟨s.env.now, encodeFrame s.params.codec ⟨typePfm, s.adjacent s.seq.pollStation, s.cfg.thisStation, []⟩⟩] } := rfl

@[simp] theorem State.declareSoleMaster_params (s : State) : (s.declareSoleMaster).params = s.params := rfl
@[simp] theorem State.declareSoleMaster_cfg (s : State) : (s.declareSoleMaster).cfg = s.cfg := rfl
@[simp] theorem State.declareSoleMaster_seq (s : State) :
    (s.declareSoleMaster).seq = { s.seq with receivedToken := true, soleMaster := true, frameCount := 0, state := .useToken } := rfl
@[simp] theorem State.declareSoleMaster_eventCount (s : State) : (s.declareSoleMaster).eventCount = s.eventCount := rfl
@[simp] theorem State.declareSoleMaster_rx (s : State) : (s.declareSoleMaster).rx = s.rx := rfl
@[simp] theorem State.declareSoleMaster_buf (s : State) : (s.declareSoleMaster).buf = s.buf := rfl
@[simp] theorem State.declareSoleMaster_lifecycle (s : State) : (s.declareSoleMaster).lifecycle = s.lifecycle := rfl
@[simp] theorem State.declareSoleMaster_env (s : State) : (s.declareSoleMaster).env = s.env := rfl

@[simp] theorem State.idleDerTail_params (s : State) (src : Octet) : (s.idleDerTail src).params = s.params := rfl
@[simp] theorem State.idleDerTail_cfg (s : State) (src : Octet) : (s.idleDerTail src).cfg = s.cfg := rfl
@[simp] theorem State.idleDerTail_seq (s : State) (src : Octet) :
    (s.idleDerTail src).seq = { s.seq with
      replyDeadline := s.rx.lastNonSilence + s.params.tReplyDelay, answerSource := src, state := .answerDataRequest,
      phase := .slot .useToken } := rfl
@[simp] theorem State.idleDerTail_eventCount (s : State) (src : Octet) :
    (s.idleDerTail src).eventCount = s.eventCount := rfl
@[simp] theorem State.idleDerTail_rx (s : State) (src : Octet) : (s.idleDerTail src).rx = s.rx := rfl
@[simp] theorem State.idleDerTail_buf (s : State) (src : Octet) : (s.idleDerTail src).buf = s.buf := rfl
@[simp] theorem State.idleDerTail_lifecycle (s : State) (src : Octet) :
    (s.idleDerTail src).lifecycle = s.lifecycle := rfl
@[simp] theorem State.idleDerTail_env (s : State) (src : Octet) : (s.idleDerTail src).env = s.env := rfl

@[simp] theorem State.started_params (s : State) (t : Int) (rest : List Event) :
    (s.started t rest).params = s.params := rfl
@[simp] theorem State.started_cfg (s : State) (t : Int) (rest : List Event) : (s.started t rest).cfg = s.cfg := rfl
@[simp] theorem State.started_seq (s : State) (t : Int) (rest : List Event) : (s.started t rest).seq = s.seq := rfl
@[simp] theorem State.started_eventCount (s : State) (t : Int) (rest : List Event) :
    (s.started t rest).eventCount = s.eventCount := rfl
@[simp] theorem State.started_rx (s : State) (t : Int) (rest : List Event) : (s.started t rest).rx = s.rx := rfl
@[simp] theorem State.started_buf (s : State) (t : Int) (rest : List Event) : (s.started t rest).buf = s.buf := rfl
@[simp] theorem State.started_lifecycle (s : State) (t : Int) (rest : List Event) :
    (s.started t rest).lifecycle = s.lifecycle := rfl
@[simp] theorem State.started_env (s : State) (t : Int) (rest : List Event) :
    (s.started t rest).env = { s.env with now := t, schedule := rest } := rfl

end Sys2Proof.Machine
end

