-- ==== Sys2Proof/Laws/Step.lean ====
section
/-! SUPPORT. What a step does for each kind of scheduled event, and what a worker micro-step does in each phase. -/

namespace Sys2Proof.Machine

/-- A scheduled worker micro-step (R103). -/
theorem step_worker {s : State} {now : Int} {rest : List Event} (h : s.env.schedule = .worker now :: rest) :
    step s = workerStep (s.started now rest) := by
  simp [step, State.nextEvent, State.takeEvent, h, runEvent, State.atTime, State.started]

/-- A scheduled host operation (R151). -/
theorem step_host {s : State} {op : HostOp} {now : Int} {rest : List Event}
    (h : s.env.schedule = .host op now :: rest) :
    step s = .next (runHostOp op (s.started now rest)) := by
  simp [step, State.nextEvent, State.takeEvent, h, runEvent, State.atTime, State.started]

/-- Octets that arrive (R33). -/
theorem step_receive {s : State} {octets : List Octet} {rest : List Event}
    (h : s.env.schedule = .receive octets :: rest) :
    step s =
      .next { s with env := { s.env with schedule := rest, inputFifo := s.env.inputFifo ++ octets } } := by
  simp [step, State.nextEvent, State.takeEvent, h, runEvent, State.receiveOctets]

/-- A held call that looks for room (R154). -/
theorem step_resume {s : State} {k : Nat} {rest : List Event} (h : s.env.schedule = .resume k :: rest) :
    step s = .next (State.resumeCall { s with env.schedule := rest } k) := by
  simp [step, State.nextEvent, State.takeEvent, h, runEvent]

/-- What a step does, whatever the event: the event's effect on the state with the event taken. -/
theorem step_runs_event (s : State) : step s = runEvent s.nextEvent s.takeEvent := rfl

/-- Taking the event writes the schedule, or the index of the free choice, and nothing else (log 6). -/
theorem State.takeEvent_shape (s : State) :
    ∃ schedule index, s.takeEvent = { s with env.schedule := schedule, env.environmentIndex := index } := by
  rw [State.takeEvent]
  split
  · exact ⟨_, s.env.environmentIndex, rfl⟩
  · exact ⟨s.env.schedule, _, rfl⟩

/-- A worker micro-step at the slot of the current state runs its handler (R103). -/
theorem workerStep_slot {s : State} (h : s.seq.phase = .slot s.seq.state) :
    workerStep s = thenNext (handler s.seq.state s) (fun t => t.advance s.seq.state) := by
  simp [workerStep, h]

/-- A worker micro-step at another state's slot is empty (R103). -/
theorem workerStep_empty {s : State} {m : MasterState} (h : s.seq.phase = .slot m) (hm : s.seq.state ≠ m) :
    workerStep s = .next (s.advance m) := by
  simp [workerStep, h, hm]

/-- The drain (R81, R103). -/
theorem workerStep_drain {s : State} (h : s.seq.phase = .drain) (hr : s.lifecycle = .running) :
    workerStep s = .next (s.drain.setPhase (.slot .idle)) := by
  simp [workerStep, h, hr]

/-- The drain is not enabled outside RUNNING (R103; log 16). -/
theorem workerStep_notRunning {s : State} (h : s.seq.phase = .drain) (hr : s.lifecycle ≠ .running) :
    workerStep s = .next s := by
  simp [workerStep, h, hr]

/-- The second micro-step of a request (R112). -/
theorem workerStep_tail {s : State} {source : Octet} (h : s.seq.phase = .idleDerTail source) :
    workerStep s = .next (s.idleDerTail source) := by
  simp [workerStep, h]

/-- Advancing writes the phase alone, and leaves IDLE_DER_TAIL (R103). -/
theorem State.advance_shape (s : State) (m : MasterState) :
    ∃ p, s.advance m = { s with seq.phase := p } ∧ (inTail p = true → inTail s.seq.phase = true) := by
  rw [State.advance]
  split
  · exact ⟨s.seq.phase, rfl, id⟩
  · split
    · exact ⟨_, rfl, by simp [inTail]⟩
    · exact ⟨_, rfl, by simp [inTail]⟩

/-- Advancing from a slot (R103). -/
theorem State.advance_of_slot {s : State} {m m' : MasterState} (h : s.seq.phase = .slot m') :
    s.advance m = s.setPhase (match nextSlot m with | some k => .slot k | none => .drain) := by
  rw [State.advance, h]
  cases nextSlot m <;> rfl

/-- The state runs on after a next state only. -/
theorem thenNext_eq_next {o : Host.Outcome State Fault Refusal} {k : State → State} {t : State} :
    thenNext o k = .next t ↔ ∃ u, o = .next u ∧ k u = t := by
  cases o <;> simp [thenNext]

/-- Every event writes a well-defined outcome: only the worker's micro-step can fault. -/
theorem runEvent_fault {e : Event} {s : State} {r : Fault} (h : runEvent e s = .fault r) : ∃ now, e = .worker now := by
  cases e <;> simp_all [runEvent]

/-! ## Runs -/

theorem run_zero (s : State) : core.run 0 s = .next s := rfl

/-- A run of `k + 1` steps is one step and a run of `k`. -/
theorem run_succ {s t : State} (k : Nat) (h : step s = .next t) : core.run (k + 1) s = core.run k t := by
  have : core.step s = .next t := h
  simp only [Host.Core.run, this]

/-- A run that answers a next state has taken its first step to a next state. -/
theorem run_succ_next {s t : State} {k : Nat} (h : core.run (k + 1) s = .next t) :
    ∃ u, step s = .next u ∧ core.run k u = .next t := by
  have e := Host.Core.run.eq_2 core s k
  rw [e] at h
  cases hs : core.step s with
  | next u => rw [hs] at h; exact ⟨u, hs, h⟩
  | fault r => rw [hs] at h; cases h
  | refused r => rw [hs] at h; cases h

end Sys2Proof.Machine
end

