-- ==== Sys2Proof/Laws/HostOps.lean ====
section
/-! SUPPORT. What a host operation can do, said once: `HostEffect` lists every outcome with its guards, and the lemmas say
that the host operations, and a held call that looks again, do nothing else. -/

namespace Sys2Proof.Machine

/-- Every outcome of the host operation `op`, with its guards. -/
inductive HostEffect (op : HostOp) (s : State) : State → Prop
  /-- R176. -/
  | faulted (c : ConfigFault) : HostEffect op s (s.raiseConfigFault op c)
  /-- R154. -/
  | pushed (type destination : Octet) (data : List Octet)
      (ho : op = .queueFrame type destination data ∨ op = .setReplyFrame type destination data)
      (ht : queueableType type = true) (hl : data.length ≤ s.params.codec.maxData) (hr : s.queueHasRoom = true) :
      HostEffect op s ((s.pushFrame (s.hostFrame type destination data)).returnTo op .ok)
  /-- R154. -/
  | held (type destination : Octet) (data : List Octet)
      (ho : op = .queueFrame type destination data ∨ op = .setReplyFrame type destination data)
      (ht : queueableType type = true) (hl : data.length ≤ s.params.codec.maxData) (hr : s.queueHasRoom = false) :
      HostEffect op s (s.holdCall op (s.hostFrame type destination data))
  /-- R155. -/
  | replied (type destination : Octet) (data : List Octet) (ho : op = .setReplyFrame type destination data)
      (hs : s.seq.state = .answerDataRequest) (hl : data.length ≤ s.params.codec.maxData) :
      HostEffect op s (State.returnTo { s with buf.replyFrame := some (s.hostFrame type destination data) } op .ok)
  /-- R156. -/
  | maxMasterSet (n : Int) (ho : op = .setMaxMaster n) (h1 : (s.cfg.thisStation.toNat : Int) ≤ n)
      (h2 : n ≤ Config.maxMaster) :
      HostEffect op s (State.returnTo { s with cfg.maxMaster := BitVec.ofNat 8 n.toNat } op .ok)
  /-- R157. -/
  | maxInfoFramesSet (n : Int) (ho : op = .setMaxInfoFrames n) (h1 : 1 ≤ n) :
      HostEffect op s (State.returnTo { s with cfg.maxInfoFrames := n.toNat } op .ok)
  /-- R158. -/
  | usageTimeoutSet (n : Int) (ho : op = .setUsageTimeout n) (h1 : 20 ≤ n) (h2 : n ≤ 100) :
      HostEffect op s (State.returnTo { s with cfg.usageTimeout := n.toNat } op .ok)
  /-- R159. -/
  | tokenAsked (ho : op = .hasReceivedToken) : HostEffect op s (s.returnTo op (.boolean s.seq.receivedToken))
  /-- R160. -/
  | terminated (ho : op = .terminate) :
      HostEffect op s (State.returnTo { s with buf.replyFrame := none, lifecycle := .terminated } op .ok)
  /-- R161. -/
  | initialized (ho : op = .initializeBlock) (hl : s.lifecycle = .constructed) :
      HostEffect op s (State.returnTo { s.publish with rx.lastNonSilence := s.env.now, lifecycle := .running } op .ok)
  /-- R162. -/
  | constructed (ts rc : Int) (ho : op = .construct ts rc) (h1 : 0 ≤ ts) (h2 : ts ≤ Config.maxMaster) (h3 : 0 ≤ rc) :
      HostEffect op s
        (State.returnTo
          (State.constructed s.params (BitVec.ofNat 8 ts.toNat) rc.toNat { s.env with waiting := [] }) op .ok)

/-- The queue path of `queueFrame` and `setReplyFrame` (R154, R155). -/
theorem State.enqueue_effect (s : State) (op : HostOp) (type destination : Octet) (data : List Octet)
    (ho : op = .queueFrame type destination data ∨ op = .setReplyFrame type destination data) :
    HostEffect op s (s.enqueue op type destination data) := by
  unfold State.enqueue State.pushOrHold
  split_ifs with h1 h2 h3
  · exact .faulted _
  · exact .faulted _
  · exact .pushed _ _ _ ho (by simpa using h1) (by omega) h3
  · exact .held _ _ _ ho (by simpa using h1) (by omega) (by simpa using h3)

/-- A host operation has one of the outcomes of `HostEffect`. -/
theorem runHostOp_effect (op : HostOp) (s : State) : HostEffect op s (runHostOp op s) := by
  cases op <;> simp only [runHostOp]
  case construct ts rc =>
    unfold hostConstruct
    simp only
    split_ifs with h1 h2
    · exact .faulted _
    · exact .faulted _
    · exact .constructed _ _ rfl (by omega) (by omega) (by omega)
  case initializeBlock =>
    unfold hostInitialize
    split_ifs with h
    · exact .faulted _
    · exact .initialized rfl (by simpa using h)
  case queueFrame type destination data => exact s.enqueue_effect _ _ _ _ (.inl rfl)
  case setReplyFrame type destination data =>
    unfold hostSetReplyFrame
    simp only
    split_ifs with h1 h2
    · exact .faulted _
    · exact .replied _ _ _ rfl h2 (by omega)
    · exact s.enqueue_effect _ _ _ _ (.inr rfl)
  case setMaxMaster n =>
    unfold hostSetMaxMaster
    split_ifs with h
    · exact .faulted _
    · exact .maxMasterSet _ rfl (by omega) (by omega)
  case setMaxInfoFrames n =>
    unfold hostSetMaxInfoFrames
    split_ifs with h
    · exact .faulted _
    · exact .maxInfoFramesSet _ rfl (by omega)
  case setUsageTimeout n =>
    unfold hostSetUsageTimeout
    split_ifs with h
    · exact .faulted _
    · exact .usageTimeoutSet _ rfl (by omega) (by omega)
  case hasReceivedToken => exact .tokenAsked rfl
  case terminate => exact .terminated rfl

/-- A held call that looks again stays held, or pushes its frame and completes (R154). -/
theorem State.resumeCall_cases (s : State) (k : Nat) :
    s.resumeCall k = s ∨
    ∃ w, s.env.waiting[k]? = some w ∧ s.queueHasRoom = true ∧
      s.resumeCall k =
        State.returnTo (State.pushFrame { s with env.waiting := s.env.waiting.eraseIdx k } w.frame) w.op .ok := by
  unfold State.resumeCall
  split
  · exact .inl rfl
  · rename_i w hw
    split_ifs with hr
    · exact .inr ⟨w, hw, hr, rfl⟩
    · exact .inl rfl

/-- Room is a length below the capacity, when there is one (R154, D18). -/
theorem State.queueHasRoom_iff (s : State) :
    s.queueHasRoom = true ↔ ∀ c, s.params.queueCapacity = some c → s.buf.framesToSend.length < c := by
  unfold State.queueHasRoom
  split <;> simp_all

end Sys2Proof.Machine
end

