-- ==== Sys2Proof/Laws/Receiver.lean ====
section
/-! SUPPORT. Lemmas on the receiver: what one octet does, parser state by parser state, what the drain
keeps, and reading in pieces and at other times. -/

namespace Sys2Proof.Machine

/-- An octet that completes no valid frame is read and the drain goes on (R81). -/
theorem State.readOctets_cons {s : State} {b : Octet} {rest : List Octet} (h : (s.rxOctet b).2 = false) :
    s.readOctets (b :: rest) = (s.rxOctet b).1.readOctets rest := by
  simp [State.readOctets, h]

/-- An octet that completes a valid frame ends the drain and leaves the rest (R81). -/
theorem State.readOctets_completed {s : State} {b : Octet} {rest : List Octet} (h : (s.rxOctet b).2 = true) :
    s.readOctets (b :: rest) = { (s.rxOctet b).1 with env.inputFifo := rest } := by
  simp [State.readOctets, h]

/-- The preamble and the five header octets, from the idle parser (R84 to R87). -/
theorem State.readOctets_header (s : State) (t d r h l : Octet) (rest : List Octet) (hs : s.rx.rxState = .idle) :
    s.readOctets (0x55 :: 0xFF :: t :: d :: r :: h :: l :: rest) =
      State.readOctets
        { s with
          eventCount := s.eventCount + 7
          rx.lastNonSilence := s.env.now
          rx.rxState := .header
          rx.rxHeader := [t, d, r, h, l] } rest := by
  simp [State.readOctets, State.rxOctet, State.parserStep, hs]

/-- The header CRC octet, with five header octets collected (R87). -/
theorem State.rxOctet_headerCrc (s : State) (t d r h l c : Octet) (hs : s.rx.rxState = .header)
    (hh : s.rx.rxHeader = [t, d, r, h, l]) :
    s.rxOctet c =
      State.headerDone
        { s with
          eventCount := s.eventCount + 1
          rx.lastNonSilence := s.env.now
          rx.rxHeader := [t, d, r, h, l, c] } := by
  simp [State.rxOctet, State.parserStep, hs, hh]

/-- Data octets before the last CRC octet are collected (R88). -/
theorem State.readOctets_data (x rest : List Octet) :
    ∀ s : State, s.rx.rxState = .data → s.rx.lastNonSilence = s.env.now →
      s.rx.rxData.length + x.length < s.rx.rxLen.toNat + 2 →
      s.readOctets (x ++ rest) =
        State.readOctets { s with eventCount := s.eventCount + x.length, rx.rxData := s.rx.rxData ++ x } rest := by
  induction x with
  | nil => intro s _ _ _; simp
  | cons b x ih =>
    intro s hs hn hl
    simp only [List.length_cons] at hl
    have hb : s.rxOctet b = ({ s with eventCount := s.eventCount + 1, rx.rxData := s.rx.rxData ++ [b] }, false) := by
      have : s.rx.rxData.length ≠ s.rx.rxLen.toNat + 1 := by omega
      simp [State.rxOctet, State.parserStep, hs, this, ← hn]
    rw [List.cons_append, State.readOctets_cons (by rw [hb]), hb]
    have hx : (s.rx.rxData ++ [b]).length + x.length < s.rx.rxLen.toNat + 2 := by simp; omega
    refine (ih { s with eventCount := s.eventCount + 1, rx.rxData := s.rx.rxData ++ [b] } hs hn hx).trans ?_
    simp [Nat.add_assoc, Nat.add_comm x.length]

/-- The last CRC octet, with all others collected (R88). -/
theorem State.rxOctet_lastData (s : State) (b : Octet) (hs : s.rx.rxState = .data)
    (hl : s.rx.rxData.length = s.rx.rxLen.toNat + 1) :
    s.rxOctet b =
      State.dataDone
        { s with
          eventCount := s.eventCount + 1
          rx.lastNonSilence := s.env.now
          rx.rxData := s.rx.rxData ++ [b] } := by
  simp [State.rxOctet, State.parserStep, hs, hl]

/-- `DataDone()` over collected data and its two CRC octets (R92). -/
theorem State.dataDone_collected (s : State) (x : List Octet) (lo hi : Octet) (hx : s.rx.rxData = x ++ [lo, hi])
    (hl : s.rx.rxLen.toNat = x.length) :
    s.dataDone =
      if lo = lowOctet (dataCrc s.params.codec x) ∧ hi = highOctet (dataCrc s.params.codec x) then ((s.complete x).resetParser, true)
      else ((s.recordInvalid .badDataCrc).resetParser, false) := by
  simp [State.dataDone, hx, hl]

/-- `HeaderDone()` over a collected header (R89, R90). -/
theorem State.headerDone_collected (s : State) (t d r h l c : Octet) (hh : s.rx.rxHeader = [t, d, r, h, l, c]) :
    s.headerDone =
      if c ≠ headerCrc s.params.codec [t, d, r, h, l] then ((s.recordInvalid .badHeaderCrc).resetParser, false)
      else if s.params.codec.maxData < (frameLength h l).toNat then ((s.recordInvalid .frameTooLong).resetParser, false)
      else if frameLength h l = 0 then ((s.recordValid ⟨t, d, r, []⟩).resetParser, true)
      else ({ s with rx.rxLen := frameLength h l, rx.rxData := [], rx.rxState := .data }, false) := by
  simp [State.headerDone, hh, State.complete, State.parsedFrame]

/-- What a parser step can write: only the receiver registers; the valid-frame flag and `frame` only on completion; it
never clears an invalid-frame cause (R84 to R93). -/
theorem State.parserStep_shape (s : State) (b : Octet) :
    ∃ rx, (s.parserStep b).1 = { s with rx := rx } ∧ rx.lastNonSilence = s.rx.lastNonSilence ∧
      ((s.parserStep b).2 = true → rx.receivedValidFrame = true ∧ rx.frame.isSome = true) ∧
      ((s.parserStep b).2 = false →
        rx.receivedValidFrame = s.rx.receivedValidFrame ∧ rx.frame = s.rx.frame) ∧
      (s.rx.receivedInvalidFrame.isSome = true → rx.receivedInvalidFrame.isSome = true) := by
  refine ⟨(s.parserStep b).1.rx, ?_⟩
  simp only [State.parserStep, State.headerDone, State.dataDone]
  repeat' split
  all_goals simp [State.recordInvalid, State.recordValid, State.resetParser, State.complete]

/-- What reading octets can do: it takes a prefix, counts it and stamps it, and only a completed frame stops it (R81, R82). -/
theorem State.readOctets_shape (octets : List Octet) :
    ∀ s : State, ∃ taken left rx, octets = taken ++ left ∧
      s.readOctets octets =
        { s with eventCount := s.eventCount + taken.length, rx := rx, env.inputFifo := left } ∧
      rx.lastNonSilence = (if taken = [] then s.rx.lastNonSilence else s.env.now) ∧
      (left ≠ [] → rx.receivedValidFrame = true) ∧
      (s.rx.receivedValidFrame = true → rx.receivedValidFrame = true) ∧
      (rx.receivedValidFrame = true → s.rx.receivedValidFrame = true ∨ rx.frame.isSome = true) ∧
      (rx.frame = s.rx.frame ∨ rx.receivedValidFrame = true ∧ rx.frame.isSome = true) ∧
      (s.rx.receivedInvalidFrame.isSome = true → rx.receivedInvalidFrame.isSome = true) := by
  induction octets with
  | nil => intro s; exact ⟨[], [], s.rx, by simpa [State.readOctets] using Or.inl⟩
  | cons b rest ih =>
    intro s
    obtain ⟨rx, h1, h2, h3, h4, h5⟩ :=
      State.parserStep_shape { s with eventCount := s.eventCount + 1, rx.lastNonSilence := s.env.now } b
    cases hc : (s.rxOctet b).2 with
    | true =>
      rw [State.readOctets_completed hc]
      obtain ⟨h6, h7⟩ := h3 hc
      refine ⟨[b], rest, rx, rfl, ?_, by simpa using h2, fun _ => h6, fun _ => h6, fun _ => .inr h7, .inr ⟨h6, h7⟩, h5⟩
      rw [State.rxOctet, h1]; rfl
    | false =>
      rw [State.readOctets_cons hc]
      obtain ⟨h6, h7⟩ := h4 hc
      obtain ⟨taken, left, rx', g1, g2, g3, g4, g5, g6, g7, g8⟩ := ih (s.rxOctet b).1
      rw [State.rxOctet, h1] at g2 g3 g5 g6 g7 g8
      refine ⟨b :: taken, left, rx', by rw [g1]; rfl, ?_, ?_, g4, fun h => g5 (h6.trans h), fun h => (g6 h).imp_left h6.symm.trans,
        g7.imp_left (fun h => h.trans h7), fun h => g8 (h5 h)⟩
      · rw [State.rxOctet, h1, g2]; simp [Nat.add_assoc, Nat.add_comm 1]
      · rw [g3]; simp [h2]

/-- The abort check writes only the receiver registers, and of them neither the silence timer, the valid-frame flag nor
`frame`; it clears no cause (R83). -/
theorem State.abortCheck_shape (s : State) :
    ∃ rx, s.abortCheck = { s with rx := rx } ∧ rx.lastNonSilence = s.rx.lastNonSilence ∧
      rx.receivedValidFrame = s.rx.receivedValidFrame ∧ rx.frame = s.rx.frame ∧
      (s.rx.receivedInvalidFrame.isSome = true → rx.receivedInvalidFrame.isSome = true) := by
  refine ⟨s.abortCheck.rx, ?_⟩
  simp only [State.abortCheck]
  repeat' split
  all_goals simp [State.recordInvalid, State.resetParser]

/-- The drain writes only the event counter, the receiver registers and the input FIFO (R81). -/
theorem State.drain_shape (s : State) :
    ∃ count rx fifo, s.drain = { s with eventCount := count, rx := rx, env.inputFifo := fifo } := by
  obtain ⟨rx, h1, _⟩ := s.abortCheck_shape
  rw [State.drain, h1]
  split
  · exact ⟨s.eventCount, rx, s.env.inputFifo, rfl⟩
  · obtain ⟨taken, left, rx', g1, g2, _⟩ := State.readOctets_shape s.env.inputFifo { s with rx := rx }
    rw [g2]
    exact ⟨_, _, _, rfl⟩

/-! ## Reading in pieces and at other times -/

/-- The state with another time input, last wire event and input FIFO: what the parser does not read. -/
def State.withClock (s : State) (now stamp : Int) (fifo : List Octet) : State :=
  { s with env.now := now, rx.lastNonSilence := stamp, env.inputFifo := fifo }

theorem State.headerDone_withClock (s : State) (now stamp : Int) (fifo : List Octet) :
    (s.withClock now stamp fifo).headerDone = (s.headerDone.1.withClock now stamp fifo, s.headerDone.2) := by
  simp only [State.headerDone]
  change (if s.rx.rxHeader.getD 5 0 ≠ headerCrc s.params.codec (s.rx.rxHeader.take 5) then _
    else if s.params.codec.maxData < (frameLength (s.rx.rxHeader.getD 3 0) (s.rx.rxHeader.getD 4 0)).toNat then _
    else if frameLength (s.rx.rxHeader.getD 3 0) (s.rx.rxHeader.getD 4 0) = 0 then _ else _) = _
  by_cases h1 : s.rx.rxHeader.getD 5 0 ≠ headerCrc s.params.codec (s.rx.rxHeader.take 5)
  · rw [if_pos h1, if_pos h1]; rfl
  rw [if_neg h1, if_neg h1]
  by_cases h2 : s.params.codec.maxData < (frameLength (s.rx.rxHeader.getD 3 0) (s.rx.rxHeader.getD 4 0)).toNat
  · rw [if_pos h2, if_pos h2]; rfl
  rw [if_neg h2, if_neg h2]
  by_cases h3 : frameLength (s.rx.rxHeader.getD 3 0) (s.rx.rxHeader.getD 4 0) = 0
  · rw [if_pos h3, if_pos h3]; rfl
  · rw [if_neg h3, if_neg h3]; rfl

theorem State.dataDone_withClock (s : State) (now stamp : Int) (fifo : List Octet) :
    (s.withClock now stamp fifo).dataDone = (s.dataDone.1.withClock now stamp fifo, s.dataDone.2) := by
  generalize hd : s.rx.rxData.take s.rx.rxLen.toNat = d
  by_cases h : s.rx.rxData.getD s.rx.rxLen.toNat 0 = lowOctet (dataCrc s.params.codec d) ∧
      s.rx.rxData.getD (s.rx.rxLen.toNat + 1) 0 = highOctet (dataCrc s.params.codec d) <;> subst hd
  · rw [show s.dataDone = _ from if_pos h]; exact if_pos h
  · rw [show s.dataDone = _ from if_neg h]; exact if_neg h

/-- The parser reads neither the clock nor the FIFO (R84 to R88). -/
theorem State.parserStep_withClock (s : State) (now stamp : Int) (fifo : List Octet) (b : Octet) :
    (s.withClock now stamp fifo).parserStep b = ((s.parserStep b).1.withClock now stamp fifo, (s.parserStep b).2) := by
  have e : (s.withClock now stamp fifo).rx.rxState = s.rx.rxState := rfl
  simp only [State.parserStep, e]
  cases s.rx.rxState <;> simp only []
  · split_ifs <;> rfl
  · split_ifs <;> rfl
  · rfl
  · by_cases h : (s.rx.rxHeader ++ [b]).length = 6
    · rw [if_pos h]
      exact (if_pos h).trans
        (State.headerDone_withClock { s with rx.rxHeader := s.rx.rxHeader ++ [b] } now stamp fifo)
    · rw [if_neg h]; exact if_neg h
  · by_cases h : (s.rx.rxData ++ [b]).length = s.rx.rxLen.toNat + 2
    · rw [if_pos h]
      exact (if_pos h).trans (State.dataDone_withClock { s with rx.rxData := s.rx.rxData ++ [b] } now stamp fifo)
    · rw [if_neg h]; exact if_neg h

/-- An octet read at another time only stamps that time (R82). -/
theorem State.rxOctet_withClock (s : State) (now stamp : Int) (fifo : List Octet) (b : Octet) :
    (s.withClock now stamp fifo).rxOctet b = ((s.rxOctet b).1.withClock now now fifo, (s.rxOctet b).2) :=
  State.parserStep_withClock { s with eventCount := s.eventCount + 1, rx.lastNonSilence := s.env.now } now now fifo b

/-- Octets read at another time only stamp that time. -/
theorem State.readOctets_withClock (octets : List Octet) :
    ∀ (s : State) (now stamp : Int) (fifo : List Octet), octets ≠ [] →
      (s.withClock now stamp fifo).readOctets octets =
        (s.readOctets octets).withClock now now (s.readOctets octets).env.inputFifo := by
  induction octets with
  | nil => intro s now stamp fifo h; exact absurd rfl h
  | cons b rest ih =>
    intro s now stamp fifo _
    simp only [State.readOctets, State.rxOctet_withClock]
    split
    · rfl
    · by_cases h : rest = []
      · subst h; rfl
      · exact ih _ _ _ _ h

/-- What stands in the FIFO makes no difference to the reading of the octets given. -/
theorem State.readOctets_fifo (octets : List Octet) :
    ∀ (s : State) (fifo : List Octet), State.readOctets { s with env.inputFifo := fifo } octets = s.readOctets octets := by
  induction octets with
  | nil => intro s fifo; rfl
  | cons b rest ih =>
    intro s fifo
    have step : State.rxOctet { s with env.inputFifo := fifo } b =
        ({ (s.rxOctet b).1 with env.inputFifo := fifo }, (s.rxOctet b).2) := by
      obtain ⟨rx, h1, h2, -⟩ :=
        State.parserStep_shape { s with eventCount := s.eventCount + 1, rx.lastNonSilence := s.env.now } b
      refine (State.rxOctet_withClock s s.env.now s.rx.lastNonSilence fifo b).trans ?_
      rw [State.rxOctet, h1]
      cases rx
      cases h2
      rfl
    simp only [State.readOctets, step]
    split
    · rfl
    · exact ih _ _

/-- An octet there to be read is read and counted (R82). -/
theorem State.readOctets_counts (s : State) (b : Octet) (rest : List Octet) :
    s.eventCount < (s.readOctets (b :: rest)).eventCount := by
  obtain ⟨rx, h1, -⟩ :=
    State.parserStep_shape { s with eventCount := s.eventCount + 1, rx.lastNonSilence := s.env.now } b
  have h2 : (s.rxOctet b).1.eventCount = s.eventCount + 1 := by rw [State.rxOctet, h1]
  cases hc : (s.rxOctet b).2 with
  | true => rw [State.readOctets_completed hc]; exact Nat.lt_of_succ_le h2.ge
  | false =>
    rw [State.readOctets_cons hc]
    obtain ⟨taken, left, rx', -, g, -⟩ := State.readOctets_shape rest (s.rxOctet b).1
    rw [g]
    change _ < (s.rxOctet b).1.eventCount + taken.length
    omega

/-- Reading two pieces: either a frame is complete within the first, which ends the reading there, or the first is read
whole, completes nothing and the second is read from the state it leaves. -/
theorem State.readOctets_append (first second : List Octet) :
    ∀ s : State,
      (∃ (t : State) (left : List Octet), t.eventCount ≤ s.eventCount + first.length ∧
        s.readOctets (first ++ second) = { t with env.inputFifo := left ++ second }) ∨
      (s.readOctets (first ++ second) = (s.readOctets first).readOctets second ∧
        (s.readOctets first).env.inputFifo = [] ∧
        (s.readOctets first).rx.receivedValidFrame = s.rx.receivedValidFrame ∧
        (s.readOctets first).rx.frame = s.rx.frame ∧
        (first ≠ [] → (s.readOctets first).rx.lastNonSilence = s.env.now)) := by
  induction first with
  | nil => intro s; exact .inr ⟨(State.readOctets_fifo second s []).symm, rfl, rfl, rfl, fun h => absurd rfl h⟩
  | cons b first ih =>
    intro s
    obtain ⟨rx, h1, h2, h3, h4, h5⟩ :=
      State.parserStep_shape { s with eventCount := s.eventCount + 1, rx.lastNonSilence := s.env.now } b
    have g : (s.rxOctet b).1 = { s with eventCount := s.eventCount + 1, rx := rx } := by rw [State.rxOctet, h1]
    cases hc : (s.rxOctet b).2 with
    | true =>
      refine .inl ⟨(s.rxOctet b).1, first, ?_, ?_⟩
      · rw [g]; simp
      · rw [List.cons_append, State.readOctets_completed hc]
    | false =>
      obtain ⟨h6, h7⟩ := h4 hc
      rw [List.cons_append, State.readOctets_cons hc, State.readOctets_cons hc]
      rcases ih (s.rxOctet b).1 with ⟨t, left, g1, g2⟩ | ⟨g1, g2, g3, g4, g5⟩
      · refine .inl ⟨t, left, ?_, g2⟩
        rw [g] at g1
        simp at g1 ⊢
        omega
      · refine .inr ⟨g1, g2, g3.trans (by rw [g]; exact h6), g4.trans (by rw [g]; exact h7), fun _ => ?_⟩
        by_cases hf : first = []
        · subst hf; simp only [State.readOctets]; rw [g]; exact h2
        · rw [g5 hf, g]

end Sys2Proof.Machine
end

