-- ==== Sys2Proof/Laws/Sequencer.lean ====
section
/-! SUPPORT. What examining a frame and what a handler can do, said once: `Examined` and `Handled` list every outcome with
its guards, and the lemmas say that exec and the handlers answer nothing else. -/

namespace Sys2Proof.Machine

/-- The three addressing columns are told apart by the destination (R65, R67). -/
theorem addressing_cases (f : Frame) (ts : Octet) :
    (addressing f ts = .toThis ∧ f.destination = ts) ∨
    (addressing f ts = .broadcast ∧ f.destination ≠ ts ∧ f.destination = Config.broadcastAddress) ∨
    (addressing f ts = .other ∧ f.destination ≠ ts ∧ f.destination ≠ Config.broadcastAddress) := by
  by_cases h1 : f.destination = ts <;> by_cases h2 : f.destination = Config.broadcastAddress <;>
    simp_all [addressing, forStation, broadcast]

/-- The state after the pending frame `f` is taken from the register (R108, R183). -/
abbrev State.taken (s : State) (f : Frame) : State := (s.recordValid f).consumeValid

/-- Every outcome of examining the frame `f` in state `s`, with its guards. -/
inductive Examined (f : Frame) (s : State) : State → Prop
  /-- The state examines no frames (R104). -/
  | pending (hs : examinesFrames s.seq.state = false) : Examined f s (s.recordValid f)
  /-- Consumed with no other effect (R108, R113, R118, R119). -/
  | dropped (hs : s.seq.state = .idle ∨ s.seq.state = .waitForReply) : Examined f s (s.taken f)
  /-- R109. -/
  | token (hs : s.seq.state = .idle) (hd : f.destination = s.cfg.thisStation) (ht : f.type = typeToken) :
      Examined f s (s.taken f).acceptToken
  /-- R110. -/
  | poll (hs : s.seq.state = .idle) (hd : f.destination = s.cfg.thisStation) (ht : f.type = typePfm) :
      Examined f s ((s.taken f).sendFrame typeRpfm f.source [])
  /-- R111. -/
  | data (hs : s.seq.state = .idle)
      (hd : f.destination = s.cfg.thisStation ∨ f.destination = Config.broadcastAddress)
      (ht : f.type = typeDner ∨ f.type = typeTresp) : Examined f s ((s.taken f).deliver (.noReply f))
  /-- R112. -/
  | request (hs : s.seq.state = .idle) (hd : f.destination = s.cfg.thisStation)
      (ht : f.type = typeDer ∨ f.type = typeTreq) : Examined f s ((s.taken f).takeRequest f)
  /-- R118. -/
  | reply (hs : s.seq.state = .waitForReply) (hd : f.destination = s.cfg.thisStation)
      (ht : f.type = typeDner ∨ f.type = typeTresp) :
      Examined f s (((s.taken f).deliver (.noReply f)).goto .doneWithToken)
  /-- R118. -/
  | postponed (hs : s.seq.state = .waitForReply) (hd : f.destination = s.cfg.thisStation) (ht : f.type = typeRpost) :
      Examined f s ((s.taken f).goto .doneWithToken)
  /-- R119, R137. -/
  | toIdle (hs : s.seq.state = .waitForReply ∨ s.seq.state = .pollForMaster) :
      Examined f s ((s.taken f).goto .idle)
  /-- R136. -/
  | successor (hs : s.seq.state = .pollForMaster) (hd : f.destination = s.cfg.thisStation) (ht : f.type = typeRpfm) :
      Examined f s ((s.taken f).acceptSuccessor f.source)

/-- Every frame type answers a next state, one of the outcomes of `Examined`. -/
theorem exec_examined (i : Instr) (s : State) : ∃ t, exec i s = .next t ∧ Examined i.toFrame s t := by
  have foreign (f : Frame) (a : Addressing) (h : s.seq.state = .waitForReply) :
      Examined f s (waitOnForeignFrame a (s.taken f)) := by
    cases a
    · exact .dropped (.inr h)
    · exact .toIdle (.inl h)
    · exact .toIdle (.inl h)
  have unknown (f : Frame) : Examined f s (s.examineUnknown f) := by
    simp only [State.examineUnknown, State.examine]
    cases h : s.seq.state
    case idle => exact .dropped (.inl h)
    case waitForReply => exact foreign f _ h
    case pollForMaster => exact .toIdle (.inr h)
    all_goals exact .pending (by rw [h]; rfl)
  cases i
  case unknown08 => exact ⟨_, rfl, unknown _⟩
  case unknown10 => exact ⟨_, rfl, unknown _⟩
  case unknown20 => exact ⟨_, rfl, unknown _⟩
  case unknown40 => exact ⟨_, rfl, unknown _⟩
  case unknown80 => exact ⟨_, rfl, unknown _⟩
  all_goals
    rename_i d r x
    refine ⟨_, rfl, ?_⟩
    simp only [Instr.toFrame, State.examine]
    generalize hf : Frame.mk _ d r x = f
    have ht := congrArg Frame.type hf
    have hr := congrArg Frame.source hf
    simp only at ht hr
    cases h : s.seq.state
    case idle =>
      rcases addressing_cases f s.cfg.thisStation with ⟨a, hd⟩ | ⟨a, -, hd⟩ | ⟨a, -⟩ <;>
        simp only [a, dropFrame, idleOnRequest, idleOnData, hr] <;>
        first
        | exact .dropped (.inl h) | exact .token h hd ht.symm | exact .poll h hd ht.symm
        | exact .data h (.inl hd) (.inl ht.symm) | exact .data h (.inl hd) (.inr ht.symm)
        | exact .data h (.inr hd) (.inl ht.symm) | exact .data h (.inr hd) (.inr ht.symm)
        | exact .request h hd (.inl ht.symm) | exact .request h hd (.inr ht.symm)
    case waitForReply =>
      rcases addressing_cases f s.cfg.thisStation with ⟨a, hd⟩ | ⟨a, -⟩ | ⟨a, -⟩ <;>
        simp only [a, waitOnForeignFrame, waitOnData] <;>
        first
        | exact .dropped (.inr h) | exact .toIdle (.inl h) | exact .postponed h hd ht.symm
        | exact .reply h hd (.inl ht.symm) | exact .reply h hd (.inr ht.symm)
    case pollForMaster =>
      rcases addressing_cases f s.cfg.thisStation with ⟨a, hd⟩ | ⟨a, -⟩ | ⟨a, -⟩ <;>
        simp only [a, pollOnOtherFrame, hr] <;>
        first
        | exact .toIdle (.inr h) | exact .successor h hd ht.symm
    all_goals exact .pending (by rw [h]; rfl)

/-- Every outcome of the current state's handler, with its guards. -/
inductive Handled (s : State) : State → Prop
  /-- The handler waits (R105, R115, R128, R132, R135, R147). -/
  | waits : Handled s s
  /-- R106. -/
  | lostToken (hs : s.seq.state = .idle) (h : s.tokenLost = true) : Handled s (s.goto .noToken)
  /-- R107. -/
  | invalidDropped (hs : s.seq.state = .idle) (h : s.tokenLost = false) (hi : s.rx.receivedInvalidFrame.isSome = true) :
      Handled s s.consumeInvalid
  /-- The received-frame branch of the three examining handlers (R108, R115, R135). -/
  | examined (f : Frame) (t : State) (he : examinesFrames s.seq.state = true) (hp : s.pendingFrame = some f)
      (h : exec (Instr.ofFrame f) s = .next t) : Handled s t
  /-- R114. -/
  | queueEmpty (hs : s.seq.state = .useToken) (hq : s.buf.framesToSend = []) : Handled s s.endPossession
  /-- R114. -/
  | frameSent (q : Frame) (rest : List Frame) (m : MasterState) (hs : s.seq.state = .useToken)
      (hq : s.buf.framesToSend = q :: rest) (hm : afterQueuedFrame q.type = some m) :
      Handled s
        { State.sendFrame { s with buf.framesToSend := rest } q.type q.destination q.data with
          seq.state := m, seq.frameCount := s.seq.frameCount + 1 }
  /-- R116. -/
  | replyTimeout (hs : s.seq.state = .waitForReply) (h : s.replyTimedOut = true) : Handled s s.endPossession
  /-- R117. -/
  | waitBroken (hs : s.seq.state = .waitForReply) (hi : s.rx.receivedInvalidFrame.isSome = true) :
      Handled s (s.consumeInvalid.goto .doneWithToken)
  /-- R121. -/
  | useAgain (hs : s.seq.state = .doneWithToken) (h : s.seq.frameCount < s.cfg.maxInfoFrames) :
      Handled s (s.goto .useToken)
  /-- R122. -/
  | pollFirst (hs : s.seq.state = .doneWithToken) (h : s.cfg.maxInfoFrames ≤ s.seq.frameCount)
      (h1 : s.seq.soleMaster = false) (h2 : s.seq.nextStation = s.cfg.thisStation) : Handled s s.pollFirst
  /-- R123. -/
  | keepToken (hs : s.seq.state = .doneWithToken) (h : s.cfg.maxInfoFrames ≤ s.seq.frameCount)
      (h1 : s.seq.soleMaster = true) (h2 : s.withinPollInterval = true) : Handled s s.keepToken
  /-- R124. -/
  | passToken (hs : s.seq.state = .doneWithToken) (h : s.cfg.maxInfoFrames ≤ s.seq.frameCount) : Handled s s.passToken
  /-- R125. -/
  | pollGap (hs : s.seq.state = .doneWithToken) (h : s.cfg.maxInfoFrames ≤ s.seq.frameCount)
      (h1 : s.withinPollInterval = false) (h2 : s.adjacent s.seq.pollStation ≠ s.seq.nextStation) : Handled s s.pollGap
  /-- R126. -/
  | endGap (hs : s.seq.state = .doneWithToken) (h : s.cfg.maxInfoFrames ≤ s.seq.frameCount)
      (h1 : s.withinPollInterval = false) (h2 : s.adjacent s.seq.pollStation = s.seq.nextStation)
      (h3 : s.seq.soleMaster = false) : Handled s s.endGap
  /-- R127. -/
  | endGapAsSoleMaster (hs : s.seq.state = .doneWithToken) (h : s.cfg.maxInfoFrames ≤ s.seq.frameCount) :
      Handled s s.endGapAsSoleMaster
  /-- R129, R133. -/
  | trafficSeen (hs : s.seq.state = .passToken ∨ s.seq.state = .noToken) (h : s.activitySeen = true) :
      Handled s (s.goto .idle)
  /-- R130. -/
  | retryToken (hs : s.seq.state = .passToken) (h : s.usageTimedOut = true)
      (h1 : s.seq.retryCount < s.params.nRetryToken) : Handled s s.retryToken
  /-- R131. -/
  | findSuccessor (hs : s.seq.state = .passToken) (h : s.usageTimedOut = true)
      (h1 : s.params.nRetryToken ≤ s.seq.retryCount) : Handled s s.findSuccessor
  /-- R134. -/
  | generateToken (hs : s.seq.state = .noToken) (h : s.mayGenerateToken = true) : Handled s s.generateToken
  /-- R139. -/
  | ownPollEnded (hs : s.seq.state = .pollForMaster) (h : s.longCondition = true) (h1 : s.seq.soleMaster = true) :
      Handled s { s.consumeInvalid with seq.frameCount := 0, seq.state := .useToken }
  /-- R140. -/
  | passAfterPoll (hs : s.seq.state = .pollForMaster) (h : s.longCondition = true) (h1 : s.seq.soleMaster = false)
      (h2 : s.seq.nextStation ≠ s.cfg.thisStation) : Handled s s.consumeInvalid.passAfterPoll
  /-- R141. -/
  | pollNext (hs : s.seq.state = .pollForMaster) (h : s.longCondition = true) (h1 : s.seq.soleMaster = false)
      (h2 : s.seq.nextStation = s.cfg.thisStation) (h3 : s.adjacent s.seq.pollStation ≠ s.cfg.thisStation) :
      Handled s s.consumeInvalid.pollNext
  /-- R142. -/
  | declareSoleMaster (hs : s.seq.state = .pollForMaster) (h : s.longCondition = true) (h1 : s.seq.soleMaster = false)
      (h2 : s.seq.nextStation = s.cfg.thisStation) (h3 : s.adjacent s.seq.pollStation = s.cfg.thisStation) :
      Handled s s.consumeInvalid.declareSoleMaster
  /-- R144. -/
  | replySent (r : Frame) (hs : s.seq.state = .answerDataRequest) (h : s.buf.replyFrame = some r) :
      Handled s (State.goto { s.sendFrame r.type r.destination r.data with buf.replyFrame := none } .idle)
  /-- R145. -/
  | postponed (hs : s.seq.state = .answerDataRequest) (h : s.buf.replyFrame = none) (h1 : s.deadlinePassed = true) :
      Handled s ((s.sendFrame typeRpost s.seq.answerSource []).goto .idle)
  /-- R146. -/
  | clamped (hs : s.seq.state = .answerDataRequest) (h : s.buf.replyFrame = none) (h1 : s.deadlinePassed = false)
      (h2 : s.clockRegressed = true) : Handled s { s with seq.replyDeadline := s.env.now + s.params.tReplyDelay }

/-- A next state of the current state's handler is one of the outcomes of `Handled`. -/
theorem handler_handled {s t : State} (h : handler s.seq.state s = .next t) : Handled s t := by
  cases hs : s.seq.state <;> rw [hs] at h <;> simp only [handler] at h
  case idle =>
    unfold handleIdle at h
    split at h
    · cases h; exact .lostToken hs ‹_›
    · split at h
      · cases h; exact .invalidDropped hs (by simpa using ‹¬ s.tokenLost = true›) ‹_›
      · split at h
        · exact .examined _ _ (by rw [hs]; rfl) ‹_› h
        · cases h; exact .waits
  case useToken =>
    unfold handleUseToken at h
    split at h
    · cases h; exact .queueEmpty hs ‹_›
    · simp only at h
      split at h
      · cases h; exact .frameSent _ _ _ hs ‹_› ‹_›
      · cases h
  case waitForReply =>
    unfold handleWaitForReply at h
    split at h
    · cases h; exact .replyTimeout hs ‹_›
    · split at h
      · cases h; exact .waitBroken hs ‹_›
      · split at h
        · exact .examined _ _ (by rw [hs]; rfl) ‹_› h
        · cases h; exact .waits
  case doneWithToken =>
    unfold handleDoneWithToken at h
    split_ifs at h with h1 h2 h3 h4 h5 h6 <;> cases h
    · exact .useAgain hs h1
    all_goals rw [not_lt] at h1
    · exact .pollFirst hs h1 (by simp_all) (by simp_all)
    · exact .keepToken hs h1 (by simp_all) (by simp_all)
    · exact .passToken hs h1
    · exact .pollGap hs h1 (by simp_all) (by simp_all)
    · exact .endGap hs h1 (by simp_all) (by simp_all) (by simp_all)
    · exact .endGapAsSoleMaster hs h1
  case passToken =>
    unfold handlePassToken at h
    split_ifs at h with h1 h2 h3 <;> cases h
    · exact .trafficSeen (.inl hs) (by simp_all)
    · exact .retryToken hs (by simp_all) (by simp_all)
    · exact .findSuccessor hs (by simp_all) (by simp_all)
    · exact .waits
  case noToken =>
    unfold handleNoToken at h
    split_ifs at h with h1 h2 <;> cases h
    · exact .trafficSeen (.inr hs) (by simp_all)
    · exact .generateToken hs h2
    · exact .waits
  case pollForMaster =>
    unfold handlePollForMaster at h
    split at h
    · exact .examined _ _ (by rw [hs]; rfl) ‹_› h
    · split at h
      · rename_i hl
        have ha : s.consumeInvalid.adjacent s.seq.pollStation = s.adjacent s.seq.pollStation := rfl
        unfold State.endPoll at h
        split_ifs at h with h1 h2 h3 <;> cases h
        · exact .ownPollEnded hs hl h1
        · exact .passAfterPoll hs hl (by simpa using h1) (by simpa using h2)
        · exact .pollNext hs hl (by simpa using h1) (by simpa using h2) (by simpa [ha] using h3)
        · exact .declareSoleMaster hs hl (by simpa using h1) (by simpa using h2) (by simpa [ha] using h3)
      · cases h; exact .waits
  case answerDataRequest =>
    unfold handleAnswerDataRequest at h
    split at h
    · cases h; exact .replySent _ hs ‹_›
    · split_ifs at h with h1 h2 <;> cases h
      · exact .postponed hs ‹_› h1
      · exact .clamped hs ‹_› (by simpa using h1) h2
      · exact .waits

/-- The one way a handler does not answer a next state: USE_TOKEN's unreachable arm (R114). -/
theorem handler_fault {s : State} (h : ∀ t, handler s.seq.state s ≠ .next t) :
    s.seq.state = .useToken ∧ ∃ q rest, s.buf.framesToSend = q :: rest ∧ afterQueuedFrame q.type = none := by
  have total (i : Instr) : ∃ t, exec i s = .next t := (exec_examined i s).imp fun _ h => h.1
  cases hs : s.seq.state <;> rw [hs] at h <;> simp only [handler] at h
  case useToken =>
    refine ⟨rfl, ?_⟩
    unfold handleUseToken at h
    split at h
    · exact absurd rfl (h _)
    · rename_i q rest hq
      refine ⟨q, rest, hq, ?_⟩
      cases hm : afterQueuedFrame q.type with
      | none => rfl
      | some m => simp [hm] at h
  all_goals exfalso
  case idle =>
    unfold handleIdle at h
    split_ifs at h
    · exact h _ rfl
    · exact h _ rfl
    · split at h
      · obtain ⟨t, ht⟩ := total (Instr.ofFrame ‹_›); exact h t ht
      · exact h _ rfl
  case waitForReply =>
    unfold handleWaitForReply at h
    split_ifs at h
    · exact h _ rfl
    · exact h _ rfl
    · split at h
      · obtain ⟨t, ht⟩ := total (Instr.ofFrame ‹_›); exact h t ht
      · exact h _ rfl
  case doneWithToken => unfold handleDoneWithToken at h; split_ifs at h <;> exact h _ rfl
  case passToken => unfold handlePassToken at h; split_ifs at h <;> exact h _ rfl
  case noToken => unfold handleNoToken at h; split_ifs at h <;> exact h _ rfl
  case pollForMaster =>
    unfold handlePollForMaster at h
    split at h
    · obtain ⟨t, ht⟩ := total (Instr.ofFrame ‹_›); exact h t ht
    · split_ifs at h <;> exact h _ rfl
  case answerDataRequest =>
    unfold handleAnswerDataRequest at h
    split at h
    · exact h _ rfl
    · split_ifs at h <;> exact h _ rfl

/-- Every outcome of a worker micro-step. -/
theorem workerStep_cases {s t : State} (h : workerStep s = .next t) :
    (s.seq.phase = .drain ∧ s.lifecycle = .running ∧ t = s.drain.setPhase (.slot .idle)) ∨
    (s.seq.phase = .drain ∧ s.lifecycle ≠ .running ∧ t = s) ∨
    (∃ m, s.seq.phase = .slot m ∧ s.seq.state ≠ m ∧ t = s.advance m) ∨
    (∃ u, s.seq.phase = .slot s.seq.state ∧ handler s.seq.state s = .next u ∧ t = u.advance s.seq.state) ∨
    (∃ source, s.seq.phase = .idleDerTail source ∧ t = s.idleDerTail source) := by
  unfold workerStep at h
  split at h
  · split_ifs at h with hr <;> cases h
    · exact .inl ⟨‹_›, hr, rfl⟩
    · exact .inr (.inl ⟨‹_›, hr, rfl⟩)
  · rename_i m hm
    split_ifs at h with hs
    · subst hs
      obtain ⟨u, h1, h2⟩ := thenNext_eq_next.mp h
      exact .inr (.inr (.inr (.inl ⟨u, hm, h1, h2.symm⟩)))
    · cases h; exact .inr (.inr (.inl ⟨m, hm, hs, rfl⟩))
  · cases h; exact .inr (.inr (.inr (.inr ⟨_, ‹_›, rfl⟩)))

end Sys2Proof.Machine
end

