-- ==== Sys2Proof/Tests/Slice0.lean ====
section
/-! SUPPORT. Small tests. Expected values come from spec/95_test_vectors.md (a vector's name) or from a rule; the witness
theorems show that the hypotheses of the statements are met, clause by clause at boundary values. -/

namespace Sys2Proof.Tests

/-! Many kernel evaluations at once would need a thread each. -/

set_option Elab.async false

open Sys2Proof.Machine

/-! ## Helpers -/

/-- A running block with station address `ts` and `maxMaster` 3, in state `m` at phase `p`, with the events to come. -/
def node (ts : Octet) (m : MasterState) (p : Phase) (events : List Event) : State :=
  let s := State.constructed Config.defaultParams ts 0 Environment.empty
  { s with lifecycle := .running, cfg.maxMaster := 3, seq.state := m, seq.phase := p, env.schedule := events }

/-- Station 1 in state `m`, its slot next, the worker's micro-step at time `now`. -/
def slot (m : MasterState) (now : Int) : State := node 1 m (.slot m) [.worker now]

/-- The frame is pending. -/
def pending (f : Frame) (s : State) : State := { s with rx.frame := some f, rx.receivedValidFrame := true }

/-- The next state of an outcome. -/
def after (o : Host.Outcome State Fault Refusal) : Option State :=
  match o with
  | .next s => some s
  | _ => none

/-- The default codec parameters. -/
abbrev codec : Config.Codec := Config.defaultCodec

/-- Codec parameters that are not the defaults: the longest length field, step functions that differ from R63's and R64's at
one point, other seeds, and no final complement. -/
abbrev otherCodec : Config.Codec where
  maxData := 65535
  hdrCrcPoints := [((0x00, 0xFF), 0x00)]
  dataCrcPoints := [((0xAA, 0xFFFF), 0x1234)]
  hdrCrcSeed := 0x00
  hdrCrcFinal := 0x00
  dataCrcSeed := 0x0000
  dataCrcFinal := 0x0000

/-- `n` octets 0x00. -/
def zeros (n : Nat) : List Octet := List.replicate n 0

/-- An observation of the next state of a step. -/
def seen {α : Type} (s : State) (look : State → α) : Option α := (after (step s)).map look

/-! ## WellFormed -/

theorem test_wellFormed_refuses_502_octets :
    ¬ (Instr.dner 1 2 (zeros 502)).WellFormed codec ∧ ¬ (⟨0x06, 1, 2, zeros 502⟩ : Frame).WellFormed codec := by decide +kernel

theorem test_wellFormed_takes_501_octets :
    (Instr.dner 1 2 (zeros 501)).WellFormed codec ∧ (⟨0x06, 1, 2, zeros 501⟩ : Frame).WellFormed codec := by decide +kernel

/-- The parameter checks as a Bool. -/
def paramsOk (p : Config.Params) : Bool := decide p.WellFormed

/-- Each check of the parameters refuses a record that fails it alone. -/
theorem test_params_checks :
    let p := Config.defaultParams
    paramsOk p = true ∧
    [{ p with tNoToken := 0 }, { p with tReplyDelay := 0 }, { p with tSlot := 0 }, { p with nPoll := 0 },
      { p with tFrameAbort := 0 }, { p with maxMasterDefault := 126 }, { p with maxInfoFramesDefault := 0 },
      { p with usageTimeoutDefault := 19 }, { p with usageTimeoutDefault := 101 },
      { p with codec.maxData := 65536 }].map paramsOk =
      List.replicate 10 false := by decide

/-! ## Words written out from the encodings (V-CRC-2, V-CRC-2b, V-ENC), one per constructor -/

theorem test_decode_token : decode codec [0x55, 0xFF, 0x00, 0x02, 0x01, 0x00, 0x00, 0x73] = .ok (.token 2 1 [], []) := by
  rfl

theorem test_decode_pfm : decode codec [0x55, 0xFF, 0x01, 0x02, 0x01, 0x00, 0x00, 0xF5] = .ok (.pfm 2 1 [], []) := by rfl

theorem test_decode_rpfm : decode codec [0x55, 0xFF, 0x02, 0x02, 0x01, 0x00, 0x00, 0x7C] = .ok (.rpfm 2 1 [], []) := by rfl

theorem test_decode_treq :
    decode codec [0x55, 0xFF, 0x03, 0x02, 0x01, 0x00, 0x01, 0x04, 0x07, 0xC7, 0x84] = .ok (.treq 2 1 [0x07], []) := by rfl

theorem test_decode_tresp :
    decode codec [0x55, 0xFF, 0x04, 0x02, 0x01, 0x00, 0x01, 0x93, 0x07, 0xC7, 0x84] = .ok (.tresp 2 1 [0x07], []) := by rfl

theorem test_decode_der :
    decode codec [0x55, 0xFF, 0x05, 0x02, 0x01, 0x00, 0x03, 0xEA, 0x01, 0x22, 0x30, 0x10, 0xBD] =
      .ok (.der 2 1 [0x01, 0x22, 0x30], []) := by rfl

/-- The two octets after the frame are left. -/
theorem test_decode_dner :
    decode codec [0x55, 0xFF, 0x06, 0x02, 0x01, 0x00, 0x01, 0x9C, 0xAA, 0x28, 0xFA, 0x13, 0x14] =
      .ok (.dner 2 1 [0xAA], [0x13, 0x14]) := by rfl

theorem test_decode_rpost : decode codec [0x55, 0xFF, 0x07, 0x02, 0x01, 0x00, 0x00, 0xE4] = .ok (.rpost 2 1 [], []) := by rfl

theorem test_decode_unknown08 :
    decode codec [0x55, 0xFF, 0x08, 0x01, 0x02, 0x00, 0x00, 0x7C] = .ok (.unknown08 0 1 2 [], []) := by rfl

theorem test_decode_unknown10 :
    decode codec [0x55, 0xFF, 0x10, 0x01, 0x02, 0x00, 0x00, 0x38] = .ok (.unknown10 0 1 2 [], []) := by rfl

theorem test_decode_unknown20 :
    decode codec [0x55, 0xFF, 0x20, 0x01, 0x02, 0x00, 0x00, 0xB0] = .ok (.unknown20 0 1 2 [], []) := by rfl

theorem test_decode_unknown40 :
    decode codec [0x55, 0xFF, 0x40, 0x01, 0x02, 0x00, 0x00, 0xA3] = .ok (.unknown40 0 1 2 [], []) := by rfl

theorem test_decode_unknown80 :
    decode codec [0x55, 0xFF, 0x80, 0x01, 0x02, 0x00, 0x00, 0x85] = .ok (.unknown80 0 1 2 [], []) ∧
    decode codec [0x55, 0xFF, 0xFF, 0x01, 0x02, 0x00, 0x00, 0x45] = .ok (.unknown80 0x7F 1 2 [], []) := ⟨rfl, rfl⟩

/-- V-RX-5, V-RX-9, V-RX-10: bad words are rejected by name. -/
theorem test_decode_rejects :
    decode codec [0x55, 0xFF, 0x00, 0x01, 0x02, 0x00, 0x00, 0x41] = .error .badHeaderCrc ∧
    decode codec [0x55, 0xFF, 0x06, 0x01, 0x02, 0x00, 0x01, 0xAF, 0x04, 0xB6, 0x5C] = .error .badDataCrc ∧
    decode codec [0x55, 0xFF, 0x06, 0x01, 0x02, 0x01, 0xF6, 0xA8] = .error .frameTooLong ∧
    decode codec [0x55, 0xFF, 0x06, 0x01, 0x02, 0x00, 0x01, 0xAF, 0x04, 0x5C] = .error .truncated ∧
    decode codec [0x55, 0xFE, 0x00, 0x01, 0x02, 0x00, 0x00, 0x40] = .error .badPreamble := ⟨rfl, rfl, rfl, rfl, rfl⟩

/-- V-CRC-4-14, V-CRC-4-15, V-CRC-2b-7, V-CRC-2b-12. -/
theorem test_crc_values :
    dataCrc codec (zeros 501) = 0x632D ∧ dataCrc codec (List.replicate 501 0xFF) = 0x38FE ∧
    headerCrc codec [0xFF, 0xFF, 0xFF, 0xFF, 0xFF] = 0x87 ∧ headerCrc codec [0x06, 0x01, 0x02, 0x01, 0xF5] = 0xA9 := by
  decide +kernel

/-- V-ENC-16, V-ENC-21. -/
theorem test_encode :
    encode codec (.treq 2 1 [0x07]) = [0x55, 0xFF, 0x03, 0x02, 0x01, 0x00, 0x01, 0x04, 0x07, 0xC7, 0x84] ∧
    encode codec (.treq 0xFF 1 [0x01, 0x02]) = [0x55, 0xFF, 0x03, 0xFF, 0x01, 0x00, 0x02, 0x1B, 0x01, 0x02, 0x8D, 0x35] := by
  decide +kernel

/-- V-ADJ-1, V-ADJ-4, V-ADJ-5, V-ADJ-7, V-ADJ-9. -/
theorem test_adjacent :
    adjacentAddress 127 127 = 0 ∧ adjacentAddress 127 0xFF = 0 ∧ adjacentAddress 0 9 = 0 ∧ adjacentAddress 3 10 = 3 ∧
    adjacentAddress 2 255 = 1 := by decide

/-- V-ADDR-1, V-ADDR-3, V-ADDR-5 at station 1. -/
theorem test_addressing :
    addressing ⟨0x00, 1, 2, []⟩ 1 = .toThis ∧ addressing ⟨0x00, 0xFF, 2, []⟩ 1 = .broadcast ∧
    addressing ⟨0x00, 0x81, 2, []⟩ 1 = .other := by decide

/-- R3, R4, G3: the parameters decide the longest frame and the CRC octets. A step on zeros leaves 0; without the final
complement the registers are R63's and R64's examples. -/
theorem test_codec_parameters :
    hdrCrcStep otherCodec 0x00 0xFF = 0x00 ∧ hdrCrcStep otherCodec 0x01 0xFF = hdrCrcStep codec 0x01 0xFF ∧
    dataCrcStep otherCodec 0xAA 0xFFFF = 0x1234 ∧ headerCrc otherCodec [0x00] = 0x00 ∧ dataCrc otherCodec [0x00] = 0x0000 ∧
    headerCrc { codec with hdrCrcFinal := 0 } [0x00] = 0x55 ∧ dataCrc { codec with dataCrcFinal := 0 } [0x01] = 0x1E0E ∧
    decode otherCodec [0x55, 0xFF, 0x00, 0x02, 0x01, 0x00, 0x00, 0x73] = .error .badHeaderCrc ∧
    decode { codec with maxData := 0 } [0x55, 0xFF, 0x06, 0x02, 0x01, 0x00, 0x01, 0x9C, 0xAA, 0x28, 0xFA] =
      .error .frameTooLong := by decide +kernel

/-! ## Table words -/

/-- The type octet alone; the other octets are 0, so the frame is to station 0. -/
theorem test_tableWord :
    decodeTableWord 8 0x00 = some (.token 0 0 []) ∧ decodeTableWord 8 0x05 = some (.der 0 0 []) ∧
    decodeTableWord 8 0x3F = some (.unknown20 0x1F 0 0 []) ∧ decodeTableWord 8 0x80 = some (.unknown80 0 0 0 []) := by
  decide +kernel

/-- R109: the placed token is examined by the next step from reset. -/
theorem test_fetch_token :
    seen (State.reset.withFetchWord 8 0x00) (fun t => (t.seq.state, t.seq.receivedToken, t.rx.receivedValidFrame)) =
      some (.useToken, true, false) := by decide +kernel

/-- R112: so is a placed request. -/
theorem test_fetch_der :
    seen (State.reset.withFetchWord 8 0x05) (fun t => (t.seq.phase, t.env.delivered.length)) =
      some (.idleDerTail 0, 1) := by decide +kernel

/-! ## Meanings, one step each -/

/-- V-SEQ-ID-7, its first micro-step. -/
theorem test_token_idle :
    seen (pending ⟨0x00, 1, 2, []⟩ { slot .idle 12 with seq.soleMaster := true, seq.frameCount := 5, rx.lastNonSilence := 10 })
        (fun t => (t.seq.state, t.seq.soleMaster, t.seq.receivedToken, t.seq.frameCount, t.rx.receivedValidFrame)) =
      some (.useToken, false, true, 0, false) := by decide +kernel

/-- V-SEQ-WR-7; V-SEQ-WR-6. -/
theorem test_token_wait :
    seen (pending ⟨0x00, 3, 2, []⟩ (slot .waitForReply 1)) (fun t => t.seq.state) = some .idle ∧
    seen (pending ⟨0x00, 1, 2, []⟩ (slot .waitForReply 1)) (fun t => (t.seq.state, t.rx.receivedValidFrame)) =
      some (.waitForReply, false) := by decide +kernel

/-- V-SEQ-ID-9. -/
theorem test_pfm_idle :
    seen (pending ⟨0x01, 2, 1, []⟩ { node 2 .idle (.slot .idle) [.worker 12] with rx.lastNonSilence := 10 })
        (fun t => (t.env.transmitted, t.rx.lastNonSilence)) =
      some ([⟨12, [0x55, 0xFF, 0x02, 0x01, 0x02, 0x00, 0x00, 0x4F]⟩], 12) := by decide +kernel

/-- R137. -/
theorem test_pfm_poll :
    seen (pending ⟨0x01, 1, 2, []⟩ (slot .pollForMaster 1)) (fun t => (t.seq.state, t.env.transmitted)) =
      some (.idle, []) := by decide +kernel

/-- V-SEQ-PM-1. -/
theorem test_rpfm_poll :
    seen (pending ⟨0x02, 1, 2, []⟩ { slot .pollForMaster 512 with seq.pollStation := 2, seq.tokenCount := 1, eventCount := 9 })
        (fun t => (t.seq.state, [t.seq.nextStation, t.seq.pollStation], [t.seq.tokenCount, t.eventCount],
          t.env.transmitted)) =
      some (.passToken, [2, 1], [0, 0], [⟨512, [0x55, 0xFF, 0x00, 0x02, 0x01, 0x00, 0x00, 0x73]⟩]) := by decide +kernel

/-- V-SEQ-ID-14. -/
theorem test_rpfm_idle :
    seen (pending ⟨0x02, 1, 2, []⟩ (slot .idle 1)) (fun t => (t.seq.state, t.rx.receivedValidFrame)) =
      some (.idle, false) := by decide +kernel

/-- R112, R223. -/
theorem test_treq_idle :
    seen (pending ⟨0x03, 1, 2, [7]⟩ (slot .idle 1)) (fun t => (t.seq.phase, t.env.delivered)) =
      some (.idleDerTail 2, [⟨1, .needingReply ⟨0x03, 1, 2, [7]⟩⟩]) := by decide +kernel

/-- R119, R223: a broadcast request is no reply. -/
theorem test_treq_wait :
    seen (pending ⟨0x03, 0xFF, 2, []⟩ (slot .waitForReply 1)) (fun t => t.seq.state) = some .idle := by decide +kernel

/-- V-SEQ-ID-11. -/
theorem test_tresp_idle :
    seen (pending ⟨0x04, 1, 5, [1, 2]⟩ (slot .idle 12)) (fun t => t.env.delivered) =
      some [⟨12, .noReply ⟨0x04, 1, 5, [1, 2]⟩⟩] := by decide +kernel

/-- R118, R224. -/
theorem test_tresp_wait :
    seen (pending ⟨0x04, 1, 2, [7]⟩ (slot .waitForReply 1)) (fun t => (t.seq.state, t.env.delivered.length)) =
      some (.doneWithToken, 1) := by decide +kernel

/-- V-SEQ-ID-12, its first micro-step. -/
theorem test_der_idle :
    seen (pending ⟨0x05, 1, 2, [0x10]⟩ (slot .idle 100)) (fun t => (t.seq.state, t.seq.phase, t.env.delivered)) =
      some (.idle, .idleDerTail 2, [⟨100, .needingReply ⟨0x05, 1, 2, [0x10]⟩⟩]) := by decide +kernel

/-- V-SEQ-ID-5. -/
theorem test_der_broadcast :
    seen (pending ⟨0x05, 0xFF, 2, [1]⟩ (slot .idle 12)) (fun t => (t.rx.receivedValidFrame, t.env.delivered)) =
      some (false, []) := by decide +kernel

/-- V-SEQ-ID-10. -/
theorem test_dner_idle :
    seen (pending ⟨0x06, 0xFF, 5, [0xAA]⟩ (slot .idle 12)) (fun t => t.env.delivered) =
      some [⟨12, .noReply ⟨0x06, 0xFF, 5, [0xAA]⟩⟩] := by decide +kernel

/-- V-SEQ-WR-4, its first micro-step; V-SEQ-WR-8. -/
theorem test_dner_wait :
    seen (pending ⟨0x06, 1, 2, [5]⟩ (slot .waitForReply 1)) (fun t => (t.seq.state, t.env.delivered)) =
      some (.doneWithToken, [⟨1, .noReply ⟨0x06, 1, 2, [5]⟩⟩]) ∧
    seen (pending ⟨0x06, 0xFF, 2, [5]⟩ (slot .waitForReply 1)) (fun t => (t.seq.state, t.env.delivered)) =
      some (.waitForReply, []) := by decide +kernel

/-- V-SEQ-WR-5, its first micro-step. -/
theorem test_rpost_wait :
    seen (pending ⟨0x07, 1, 2, []⟩ (slot .waitForReply 1)) (fun t => (t.seq.state, t.env.delivered)) =
      some (.doneWithToken, []) := by decide +kernel

/-- R119, R227. -/
theorem test_rpost_other :
    seen (pending ⟨0x07, 3, 2, []⟩ (slot .waitForReply 1)) (fun t => t.seq.state) = some .idle := by decide +kernel

/-- V-SEQ-ID-4's case, for each row of unknown types. -/
theorem test_unknown_idle :
    ([0x08, 0x10, 0x20, 0x40, 0x80, 0xFF].map fun type : Octet =>
        seen (pending ⟨type, 1, 2, []⟩ (slot .idle 12)) (fun t => (t.seq.state, t.rx.receivedValidFrame, t.env.delivered))) =
      List.replicate 6 (some (.idle, false, [])) := by decide +kernel

/-- R118, R119, R137, R228: to this station, to another, while polling. -/
theorem test_unknown_elsewhere :
    ([0x0F, 0x1F, 0x3F, 0x7F, 0x80].map fun type : Octet =>
        (seen (pending ⟨type, 1, 2, []⟩ (slot .waitForReply 1)) (fun t => t.seq.state),
          seen (pending ⟨type, 3, 2, []⟩ (slot .waitForReply 1)) (fun t => t.seq.state),
          seen (pending ⟨type, 1, 2, []⟩ (slot .pollForMaster 1)) (fun t => t.seq.state))) =
      List.replicate 5 (some .waitForReply, some .idle, some .idle) := by decide +kernel

/-! ## Receiver -/

/-- V-RX-6: a bad header and a good TOKEN in one drain. -/
theorem test_drain_bad_then_good :
    let s := { node 1 .idle .drain [.worker 12] with
      env.inputFifo := [0x55, 0xFF, 0x00, 0x01, 0x02, 0x00, 0x00, 0x41, 0x55, 0xFF, 0x00, 0x01, 0x02, 0x00, 0x00, 0x40] }
    seen s (fun t => (t.eventCount, t.rx.frame, t.rx.receivedInvalidFrame, t.env.inputFifo)) =
      some (16, some ⟨0x00, 1, 2, []⟩, some .badHeaderCrc, []) := by decide +kernel

/-- V-RX-15, V-RX-16, V-RX-19: the abort check at silence 100, 99 and −50. -/
theorem test_abort_boundary :
    let s (now : Int) := { node 1 .idle .drain [.worker now] with
      eventCount := 4, rx.lastNonSilence := 10, rx.rxState := .header, rx.rxHeader := [0x00, 0x01] }
    ([110, 109, -40].map fun now : Int => seen (s now) (fun t => (t.rx.rxState, t.rx.rxHeader, t.rx.receivedInvalidFrame))) =
      [some (.idle, [], some .truncated), some (.header, [0x00, 0x01], none), some (.header, [0x00, 0x01], none)] := by
  decide +kernel

/-- V-RX-21, V-RX-22: hold-off in IDLE, overwrite in PASS_TOKEN. -/
theorem test_drain_hold_off :
    let s (m : MasterState) := pending ⟨0x00, 3, 2, []⟩ { node 1 m .drain [.worker 12] with
      env.inputFifo := [0x55, 0xFF, 0x01, 0x01, 0x02, 0x00, 0x00, 0xC6] }
    seen (s .idle) (fun t => (t.eventCount, t.rx.frame, t.env.inputFifo.length)) = some (0, some ⟨0x00, 3, 2, []⟩, 8) ∧
    seen (s .passToken) (fun t => (t.eventCount, t.rx.frame, t.env.inputFifo)) = some (8, some ⟨0x01, 1, 2, []⟩, []) := by
  decide +kernel

/-! ## Sequencer -/

/-- V-SEQ-ID-1, V-SEQ-ID-2 (station 1). -/
theorem test_lost_token :
    seen (slot .idle 500) (fun t => t.seq.state) = some .noToken ∧
    seen (slot .idle 499) (fun t => t.seq.state) = some .idle := by decide +kernel

/-- V-SEQ-UT-4, its micro-step. -/
theorem test_use_token_sends :
    seen { slot .useToken 12 with buf.framesToSend := [⟨0x03, 2, 1, []⟩] }
        (fun t => (t.seq.state, t.seq.frameCount, t.buf.framesToSend, t.env.transmitted)) =
      some (.waitForReply, 1, [], [⟨12, [0x55, 0xFF, 0x03, 0x02, 0x01, 0x00, 0x00, 0xFA]⟩]) := by decide +kernel

/-- V-SEQ-WR-1, V-SEQ-WR-2, the WAIT_FOR_REPLY micro-step. -/
theorem test_reply_timeout :
    seen (slot .waitForReply 255) (fun t => t.seq.state) = some .waitForReply ∧
    seen (slot .waitForReply 256) (fun t => (t.seq.state, t.seq.frameCount)) = some (.doneWithToken, 1) := by decide +kernel

/-- V-SEQ-DT-8, V-SEQ-DT-9. -/
theorem test_sole_master_end_of_gap :
    seen { slot .doneWithToken 12 with seq.pollStation := 0, seq.soleMaster := true, seq.frameCount := 1, seq.tokenCount := 49 }
        (fun t => (t.seq.state, t.seq.pollStation, t.seq.tokenCount)) = some (.pollForMaster, 2, 1) ∧
    seen { node 0 .doneWithToken (.slot .doneWithToken) [.worker 12] with
          cfg.maxMaster := 0, seq.soleMaster := true, seq.frameCount := 1, seq.tokenCount := 49 }
        (fun t => (t.seq.state, t.seq.tokenCount)) = some (.passToken, 50) := by decide +kernel

/-- V-SEQ-PT-5, V-SEQ-PT-3, V-SEQ-PT-4 (`tokenCount` 5 in all). -/
theorem test_pass_token :
    ([(619, 0), (620, 0), (620, 1)].map fun p : Int × Nat =>
        seen { slot .passToken p.1 with
            seq.nextStation := 2, seq.retryCount := p.2, seq.tokenCount := 5, rx.lastNonSilence := 600 }
          (fun t => (t.seq.state, [t.seq.nextStation, t.seq.pollStation], [t.seq.retryCount, t.seq.tokenCount]))) =
      [some (.passToken, [2, 1], [0, 5]), some (.passToken, [2, 1], [1, 5]),
        some (.pollForMaster, [1, 3], [0, 0])] := by decide +kernel

/-- V-SEQ-NT-2, V-SEQ-NT-1, V-SEQ-NT-4, V-SEQ-NT-6, V-SEQ-NT-5. -/
theorem test_no_token :
    ([509, 510, 520, 540, 541].map fun now : Int => seen (slot .noToken now) (fun t => t.seq.state)) =
      [some .noToken, some .pollForMaster, some .noToken, some .noToken, some .pollForMaster] := by decide +kernel

/-- V-SEQ-PM-7: this station declares itself sole master. -/
theorem test_declare_sole_master :
    seen { slot .pollForMaster 20 with seq.pollStation := 0 }
        (fun t => (t.seq.state, t.seq.soleMaster, t.seq.receivedToken)) = some (.useToken, true, true) := by decide +kernel

/-- V-SEQ-AD-3 to V-SEQ-AD-6, V-PROP-6b, V-PROP-6c. -/
theorem test_answer_deadline :
    ([1251, 1250, 900, 1100, 999, 1000].map fun now : Int =>
        seen { slot .answerDataRequest now with seq.replyDeadline := 1250, seq.answerSource := 2 }
          (fun t => (t.seq.state, t.seq.replyDeadline, t.env.transmitted.map fun x => x.octets))) =
      [some (.idle, 1250, [[0x55, 0xFF, 0x07, 0x02, 0x01, 0x00, 0x00, 0xE4]]), some (.answerDataRequest, 1250, []),
        some (.answerDataRequest, 1150, []), some (.answerDataRequest, 1250, []), some (.answerDataRequest, 1249, []),
        some (.answerDataRequest, 1250, [])] := by decide +kernel

/-! ## Host operations -/

/-- V-HOST-2, V-HOST-3, V-HOST-5. -/
theorem test_construct :
    (runHostOp (.construct 128 (-1)) State.reset).env.returned = [⟨.construct 128 (-1), .configFault .stationRange⟩] ∧
    (runHostOp (.construct 127 (-1)) State.reset).env.returned = [⟨.construct 127 (-1), .configFault .retryCount⟩] ∧
    (runHostOp (.construct 0 0) (slot .useToken 0)).seq.state = .idle := by decide +kernel

/-- V-HOST-6 (station 5), V-HOST-8. -/
theorem test_setters :
    let s := node 5 .idle .drain []
    (runHostOp (.setMaxMaster 4) s).cfg.maxMaster = 3 ∧ (runHostOp (.setMaxMaster 5) s).cfg.maxMaster = 5 ∧
    (runHostOp (.setMaxMaster 127) s).cfg.maxMaster = 127 ∧ (runHostOp (.setMaxMaster 128) s).cfg.maxMaster = 3 ∧
    (runHostOp (.setUsageTimeout 100) s).cfg.usageTimeout = 100 ∧
    (runHostOp (.setUsageTimeout 101) s).cfg.usageTimeout = 20 := by decide +kernel

/-- V-HOST-10, V-HOST-12. -/
theorem test_setReplyFrame :
    (runHostOp (.setReplyFrame 0x04 2 [7]) (slot .answerDataRequest 0)).buf.replyFrame = some ⟨0x04, 2, 1, [7]⟩ ∧
    (runHostOp (.setReplyFrame 0x04 2 [7]) (slot .idle 0)).env.returned =
      [⟨.setReplyFrame 0x04 2 [7], .configFault .frameType⟩] ∧
    (runHostOp (.setReplyFrame 0x06 2 [9]) (slot .idle 0)).buf.framesToSend = [⟨0x06, 2, 1, [9]⟩] := by decide +kernel

/-! ## Witnesses for the statements' hypotheses -/

/-- 501 data octets, and none, with the defaults; 65535 with other parameters. -/
theorem witness_DecodeReadsBackEncode :
    codec.WellFormed ∧ (Instr.unknown80 0x7F 0xFF 0x7F (zeros 501)).WellFormed codec ∧
    (Instr.token 0 0 []).WellFormed codec ∧ otherCodec.WellFormed ∧
    (Instr.dner 1 2 (zeros 65535)).WellFormed otherCodec := by
  refine ⟨by decide, by decide +kernel, by decide, by decide, (List.length_replicate ..).le⟩

theorem witness_DecodeAcceptsOnlyEncodings :
    decode codec [0x55, 0xFF, 0xFF, 0x01, 0x02, 0x00, 0x00, 0x45, 0x13] = .ok (.unknown80 0x7F 1 2 [], [0x13]) := by rfl

/-- A receiver with the parser idle and the octets of a frame at the head of its FIFO. -/
def receiving (i : Instr) (rest : List Octet) : State :=
  { node 1 .idle .drain [.worker 12, .worker 12] with env.inputFifo := encode codec i ++ rest }

/-- A block that drains at time 12, its parser in state `p`, with these octets in its FIFO. -/
def draining (p : RxState) (octets : List Octet) : State :=
  { node 1 .idle .drain [.worker 12] with env.now := 12, env.inputFifo := octets, rx.rxState := p }

/-- The overwrite case: the same block in a state that examines no frames, with a frame pending. -/
def overwriting (m : MasterState) (octets : List Octet) : State :=
  pending ⟨0x00, 3, 2, []⟩ { draining .preamble1 octets with seq.state := m }

/-- The parser idle and no frame pending, 501 octets; the parser at a 0x55 and one pending in each of the five states, after
two more 0x55; and cuts before the first octet, inside the preamble and before the last octet, 99 ms apart. -/
theorem witness_DrainReceivesEncodedFrame :
    codec.WellFormed ∧ (Instr.dner 1 2 (zeros 501)).WellFormed codec ∧ (Instr.token 1 2 []).WellFormed codec ∧
    (let s := draining .idle (encode codec (.dner 1 2 (zeros 501)) ++ [0x13]);
      s.rx.rxState ∈ [RxState.idle, .preamble1] ∧ s.rx.receivedValidFrame = false ∧
      s.env.inputFifo = List.replicate 0 0x55 ++ encode codec (.dner 1 2 (zeros 501)) ++ [0x13]) ∧
    (∀ m ∈ [MasterState.useToken, .doneWithToken, .passToken, .noToken, .answerDataRequest],
      let s := overwriting m ([0x55, 0x55] ++ encode codec (.token 1 2 []) ++ [0x13])
      s.rx.rxState ∈ [RxState.idle, .preamble1] ∧ s.rx.receivedValidFrame = true ∧ s.seq.state = m ∧
      s.env.inputFifo = List.replicate 2 0x55 ++ encode codec (.token 1 2 []) ++ [0x13]) ∧
    (∀ cut ∈ [0, 1, 2, 7],
      let wire := encode codec (.token 1 2 [])
      let s := draining .idle (wire.take cut)
      wire = wire.take cut ++ wire.drop cut ∧ wire.drop cut ≠ [] ∧ s.env.inputFifo = wire.take cut ∧
      (111 : Int) - s.env.now < s.params.tFrameAbort) := by
  refine ⟨by decide, by decide +kernel, by decide, by refine ⟨?_, ?_, ?_⟩ <;> decide +kernel, by decide, by decide⟩

/-- A pending frame in each of the three states that hold the drain off; one in each of the five that read on, and none,
with octets in the FIFO; V-RX-26's octets left behind a frame. -/
theorem witness_DrainReadsPrefix :
    (∀ m ∈ [MasterState.idle, .waitForReply, .pollForMaster],
      (pending ⟨0x00, 3, 2, []⟩ (node 1 m .drain [])).rx.receivedValidFrame = true ∧
      (pending ⟨0x00, 3, 2, []⟩ (node 1 m .drain [])).seq.state = m) ∧
    (∀ m ∈ [MasterState.useToken, .doneWithToken, .passToken, .noToken, .answerDataRequest],
      (overwriting m [0x13]).seq.state = m ∧ (overwriting m [0x13]).env.inputFifo ≠ []) ∧
    (draining .idle [0x13]).rx.receivedValidFrame = false ∧ (draining .idle [0x13]).env.inputFifo ≠ [] ∧
    (receiving (.token 1 2 []) [0, 0]).drain.env.inputFifo ≠ [] := by
  refine ⟨by decide, by decide, by decide, by decide, by decide +kernel⟩

theorem witness_IndicationsAreIndependent :
    let s := { pending ⟨0x00, 3, 2, []⟩ (receiving (.token 1 2 []) []) with
      seq.state := .passToken, rx.receivedInvalidFrame := some .truncated }
    s.rx.receivedValidFrame = true ∧ s.rx.receivedInvalidFrame.isSome = true ∧ s.drain.rx.frame ≠ s.rx.frame := by
  decide +kernel

/-- V-RX-5's header; lengths 502 and 65535 with a good CRC. -/
theorem witness_BadHeaderRestartsParser :
    (node 1 .idle .drain []).rx.rxState = .idle ∧ (0x41 : Octet) ≠ headerCrc codec [0x00, 1, 2, 0, 0] ∧
    (0xA8 : Octet) = headerCrc codec [0x06, 1, 2, 1, 0xF6] ∧ 501 < (frameLength 1 0xF6).toNat ∧
    501 < (frameLength 0xFF 0xFF).toNat := by decide

/-- V-RX-9 (swapped CRC octets) with one data octet; 501 data octets. -/
theorem witness_BadDataCrcRestartsParser :
    codec.WellFormed ∧ (node 1 .idle .drain []).rx.rxState = .idle ∧ (⟨0x06, 1, 2, [4]⟩ : Frame).WellFormed codec ∧
    ¬((0xB6 : Octet) = lowOctet (dataCrc codec [4]) ∧ (0x5C : Octet) = highOctet (dataCrc codec [4])) ∧
    (⟨0x20, 1, 2, zeros 501⟩ : Frame).WellFormed codec ∧
    ¬((0x2D : Octet) = lowOctet (dataCrc codec (zeros 501)) ∧ (0x62 : Octet) = highOctet (dataCrc codec (zeros 501))) := by
  decide +kernel

/-- The idle parser and octets beside 0x55; the parser at a 0x55, with another one, and with octets beside 0x55 and 0xFF. -/
theorem witness_StrayOctetsAreDropped :
    (draining .idle []).rx.rxState = .idle ∧ (∀ b ∈ [0x00#8, 0x54, 0x56, 0xFF], b ≠ 0x55) ∧
    (draining .preamble1 []).rx.rxState = .preamble1 ∧
    (∀ b ∈ [0x00#8, 0x54, 0x56, 0xFE], b ≠ 0x55 ∧ b ≠ 0xFF) := by decide

/-- Station 1, the parser in state `p`, the drain at silence `q`. -/
def parsing (p : RxState) (q : Int) : State := { node 1 .idle .drain [] with rx.rxState := p, env.now := q }

/-- Silence 99 and 100, and the parser states on both sides of the check; then, with the check due inside a frame, a drain
of an empty FIFO, one that a pending frame holds off, and one with a frame at the head of the FIFO. -/
theorem witness_FrameAbortByParserState :
    (parsing .header 99).silence < (parsing .header 99).params.tFrameAbort ∧
    (∀ p ∈ [RxState.idle, .preamble1, .preamble2, .header, .data],
      ((parsing p 100).params.tFrameAbort : Int) ≤ (parsing p 100).silence ∧ (parsing p 100).rx.rxState = p) ∧
    (parsing .preamble2 100).env.inputFifo = [] ∧
    (∀ m ∈ [MasterState.idle, .waitForReply, .pollForMaster],
      let s := pending ⟨0x00, 3, 2, []⟩ { parsing .header 100 with seq.state := m }
      (s.params.tFrameAbort : Int) ≤ s.silence ∧ s.rx.receivedValidFrame = true ∧ s.seq.state = m) ∧
    (let s := { parsing .data 100 with env.inputFifo := encode codec (.token 1 2 []) ++ [0x13] };
      codec.WellFormed ∧ (Instr.token 1 2 []).WellFormed codec ∧ (s.params.tFrameAbort : Int) ≤ s.silence ∧
      s.rx.receivedValidFrame = false ∧ s.env.inputFifo = encode codec (.token 1 2 []) ++ [0x13]) ∧
    (∀ m ∈ [MasterState.useToken, .doneWithToken, .passToken, .noToken, .answerDataRequest],
      let s := pending ⟨0x00, 3, 2, []⟩
        { parsing .data 100 with seq.state := m, env.inputFifo := encode codec (.token 1 2 []) }
      (s.params.tFrameAbort : Int) ≤ s.silence ∧ s.seq.state = m ∧ s.env.inputFifo = encode codec (.token 1 2 []) ++ []) := by
  decide +kernel

/-- The examining states, with a destination that is this station, broadcast, and another. Covers TokenExaminedInIdle,
PollAnsweredInIdle, RequestTakenInIdle, DataDeliveredInIdle, OtherTypesDroppedInIdle, RepliesEndWait, ForeignFramesInWait,
PollReplyTakesSuccessor and OtherFramesEndPoll. -/
theorem witness_examining_states :
    (∀ m ∈ [MasterState.idle, .waitForReply, .pollForMaster], (slot m 0).seq.state = m) ∧
    (1 : Octet) = (slot .idle 0).cfg.thisStation ∧ (0xFF : Octet) ≠ (slot .idle 0).cfg.thisStation ∧
    (2 : Octet) ≠ (slot .idle 0).cfg.thisStation ∧
    ((0xFF : Octet) = (slot .idle 0).cfg.thisStation ∨ (0xFF : Octet) = 0xFF) ∧
    ¬((0xFE : Octet) = (slot .idle 0).cfg.thisStation ∨ (0xFE : Octet) = 0xFF) := by decide

theorem witness_FramesStayPendingElsewhere :
    ∀ m ∈ [MasterState.useToken, .doneWithToken, .passToken, .noToken, .answerDataRequest], (slot m 0).seq.state = m := by
  decide

theorem witness_TablesAgreeWithHandlers :
    (node 127 .idle .drain []).cfg.thisStation.toNat ≤ 127 ∧ (node 0 .idle .drain []).cfg.thisStation.toNat ≤ 127 := by
  decide

/-- At the last silence of each state that still reaches the frame branch. -/
theorem witness_StepRunsDecodedFrame :
    decode codec [0x55, 0xFF, 0x00, 0x02, 0x01, 0x00, 0x00, 0x73] = .ok (.token 2 1 [], []) ∧
    (∀ p ∈ [(MasterState.idle, (499 : Int)), (.waitForReply, 255), (.pollForMaster, 9999)],
      (pending (Instr.token 2 1 []).toFrame (slot p.1 p.2)).AtSlot p.2 [] ∧
      ((pending (Instr.token 2 1 []).toFrame (slot p.1 p.2)).started p.2 []).examinesNow = true ∧
      (pending (Instr.token 2 1 []).toFrame (slot p.1 p.2)).rx.receivedValidFrame = true ∧
      (pending (Instr.token 2 1 []).toFrame (slot p.1 p.2)).rx.frame = some (Instr.token 2 1 []).toFrame) := by
  refine ⟨rfl, by decide⟩

theorem witness_WireFrameIsReceivedThenExamined :
    let s := { receiving (.der 1 2 [1]) [0x13] with env.schedule := [.worker 12, .worker 511] }
    codec.WellFormed ∧ (Instr.der 1 2 [1]).WellFormed codec ∧ s.env.schedule = [.worker 12, .worker 511] ∧
      s.env.inputFifo = encode codec (.der 1 2 [1]) ++ [0x13] ∧ s.lifecycle = .running ∧ s.seq.phase = .drain ∧
      s.seq.state = .idle ∧ s.rx.rxState = .idle ∧ s.rx.receivedValidFrame = false ∧
      s.rx.receivedInvalidFrame = none ∧ (511 : Int) - 12 < s.params.tNoToken := by decide +kernel

/-- An empty slot, and a drain before `initialize` and after `terminate`. -/
theorem witness_EmptyMicroSteps :
    (node 1 .idle (.slot .useToken) [.worker 0]).env.schedule = [.worker 0] ∧
    (node 1 .idle (.slot .useToken) [.worker 0]).seq.phase = .slot .useToken ∧
    (node 1 .idle (.slot .useToken) [.worker 0]).seq.state ≠ .useToken ∧
    (node 1 .idle .drain [.worker 0]).seq.phase = .drain ∧
    (∀ l ∈ [Lifecycle.constructed, .terminated],
      { node 1 .idle .drain [.worker 0] with lifecycle := l }.lifecycle ≠ .running) := by decide

/-- A micro-step inside a cycle, and the drain that starts one, in every state. -/
theorem witness_CycleReachesItsEnd :
    (∃ s', step (slot .pollForMaster 0) = .next s') ∧ (slot .pollForMaster 0).env.schedule = [.worker 0] ∧
    (slot .pollForMaster 0).seq.phase ≠ .drain ∧
    (∀ m ∈ [MasterState.idle, .useToken, .waitForReply, .doneWithToken, .passToken, .noToken, .pollForMaster,
        .answerDataRequest],
      let s := node 1 m .drain [.worker 0]
      s.env.schedule = .worker 0 :: [] ∧ s.seq.phase = .drain ∧ s.lifecycle = .running ∧ s.seq.state = m) := by
  refine ⟨⟨_, rfl⟩, rfl, by decide, by decide⟩

/-- `slot m now` is at its slot, in every state. -/
theorem witness_AtSlot :
    ∀ m ∈ [MasterState.idle, .useToken, .waitForReply, .doneWithToken, .passToken, .noToken, .pollForMaster,
        .answerDataRequest],
      (slot m 5).AtSlot 5 [] ∧ (slot m 5).seq.state = m := by decide

/-- Silence 500 exactly. -/
theorem witness_LostTokenLeavesIdle :
    (slot .idle 500).AtSlot 500 [] ∧ (slot .idle 500).seq.state = .idle ∧
    ((slot .idle 500).params.tNoToken : Int) ≤ 500 - (slot .idle 500).rx.lastNonSilence := by decide

/-- Silence 499, with an invalid frame and with nothing pending. -/
theorem witness_IdleConsumesInvalidFrame :
    (let s := { slot .idle 499 with rx.receivedInvalidFrame := some .truncated };
      s.AtSlot 499 [] ∧ s.seq.state = .idle ∧ (499 : Int) - s.rx.lastNonSilence < s.params.tNoToken ∧
        s.rx.receivedInvalidFrame ≠ none) ∧
    (let s := slot .idle 499;
      s.AtSlot 499 [] ∧ s.seq.state = .idle ∧ (499 : Int) - s.rx.lastNonSilence < s.params.tNoToken ∧
        s.rx.receivedInvalidFrame = none ∧ s.rx.receivedValidFrame = false) := by decide

/-- The empty queue, each type with a meaning, and one without. -/
theorem witness_UseTokenSendsOldestFrame :
    let s (queue : List Frame) := { slot .useToken 5 with buf.framesToSend := queue }
    ((s []).AtSlot 5 [] ∧ (s []).seq.state = .useToken ∧ (s []).buf.framesToSend = []) ∧
    (∀ t ∈ [0x06#8, 0x04#8, 0x05#8, 0x03#8, 0x07#8],
      (s [⟨t, 2, 1, []⟩]).AtSlot 5 [] ∧ (s [⟨t, 2, 1, []⟩]).seq.state = .useToken ∧
      (s [⟨t, 2, 1, []⟩]).buf.framesToSend = ⟨t, 2, 1, []⟩ :: []) ∧
    (0x07#8) ∉ [0x06#8, 0x04#8, 0x05#8, 0x03#8] := by decide

/-- Silence 256; silence 255 with an invalid frame, and with nothing pending. -/
theorem witness_WaitEndsBeforeFrames :
    (let s := slot .waitForReply 256;
      s.AtSlot 256 [] ∧ s.seq.state = .waitForReply ∧ (s.params.tReplyTimeout : Int) < 256 - s.rx.lastNonSilence) ∧
    (let s := { slot .waitForReply 255 with rx.receivedInvalidFrame := some .badDataCrc };
      s.AtSlot 255 [] ∧ s.seq.state = .waitForReply ∧ (255 : Int) - s.rx.lastNonSilence ≤ s.params.tReplyTimeout ∧
        s.rx.receivedInvalidFrame ≠ none) ∧
    (let s := slot .waitForReply 255;
      s.AtSlot 255 [] ∧ s.seq.state = .waitForReply ∧ (255 : Int) - s.rx.lastNonSilence ≤ s.params.tReplyTimeout ∧
        s.rx.receivedInvalidFrame = none ∧ s.rx.receivedValidFrame = false) := by decide

/-- DONE_WITH_TOKEN with `maxMaster` 3, `maxInfoFrames` 1, `frameCount` 1. -/
def done (next poll : Octet) (sole : Bool) (tokens : Nat) : State :=
  { slot .doneWithToken 5 with
    seq.frameCount := 1, seq.nextStation := next, seq.pollStation := poll, seq.soleMaster := sole, seq.tokenCount := tokens }

/-- `frameCount` 0 below the budget of 1; a sole master at `tokenCount` 48. -/
theorem witness_DoneWithTokenKeepsToken :
    (let s := slot .doneWithToken 5;
      s.AtSlot 5 [] ∧ s.seq.state = .doneWithToken ∧ s.seq.frameCount < s.cfg.maxInfoFrames) ∧
    (let s := done 1 1 true 48;
      s.AtSlot 5 [] ∧ s.seq.state = .doneWithToken ∧ s.cfg.maxInfoFrames ≤ s.seq.frameCount ∧ s.seq.soleMaster = true ∧
        s.seq.tokenCount + 1 < s.params.nPoll) := by decide

/-- `done` meets the common hypotheses of the two statements below, whatever its arguments. -/
theorem witness_done (next poll : Octet) (sole : Bool) (tokens : Nat) :
    (done next poll sole tokens).AtSlot 5 [] ∧ (done next poll sole tokens).seq.state = .doneWithToken ∧
    (done next poll sole tokens).cfg.maxInfoFrames ≤ (done next poll sole tokens).seq.frameCount :=
  ⟨⟨rfl, rfl⟩, rfl, Nat.le_refl 1⟩

/-- No successor; a gap left at `tokenCount` 49; a sole master at the end of the gap. -/
theorem witness_DoneWithTokenPolls :
    (let s := done 1 1 false 49; s.seq.soleMaster = false ∧ s.seq.nextStation = s.cfg.thisStation) ∧
    (let s := done 3 1 false 49;
      (s.seq.soleMaster = true ∨ s.seq.nextStation ≠ s.cfg.thisStation) ∧ s.params.nPoll ≤ s.seq.tokenCount + 1 ∧
      s.seq.nextStation ≠ s.adjacent s.cfg.thisStation ∧ s.adjacent s.seq.pollStation ≠ s.seq.nextStation) ∧
    (let s := done 1 0 true 49;
      s.seq.soleMaster = true ∧ s.params.nPoll ≤ s.seq.tokenCount + 1 ∧
      s.seq.nextStation ≠ s.adjacent s.cfg.thisStation ∧ s.adjacent s.seq.pollStation = s.seq.nextStation) := by decide

/-- `tokenCount` 48 with a successor; 49 with an adjacent one; a sole master that is adjacent to itself (`maxMaster` 0); the
end of the gap. -/
theorem witness_DoneWithTokenPassesToken :
    (let s := done 3 1 false 48;
      s.seq.soleMaster = false ∧ s.seq.nextStation ≠ s.cfg.thisStation ∧ s.seq.tokenCount + 1 < s.params.nPoll) ∧
    (let s := done 2 1 false 49;
      s.seq.soleMaster = false ∧ s.seq.nextStation ≠ s.cfg.thisStation ∧
      s.seq.nextStation = s.adjacent s.cfg.thisStation) ∧
    (let s := { done 0 0 true 49 with cfg.maxMaster := 0, cfg.thisStation := 0 };
      s.AtSlot 5 [] ∧ s.seq.state = .doneWithToken ∧ s.cfg.maxInfoFrames ≤ s.seq.frameCount ∧
      s.seq.soleMaster = true ∧ s.params.nPoll ≤ s.seq.tokenCount + 1 ∧
      s.seq.nextStation = s.adjacent s.cfg.thisStation) ∧
    (let s := done 3 2 false 49;
      s.seq.soleMaster = false ∧ s.seq.nextStation ≠ s.cfg.thisStation ∧ s.params.nPoll ≤ s.seq.tokenCount + 1 ∧
      s.seq.nextStation ≠ s.adjacent s.cfg.thisStation ∧ s.adjacent s.seq.pollStation = s.seq.nextStation) := by decide

/-- PASS_TOKEN with an event count and a retry count. -/
def passing (octets retries : Nat) (now : Int) : State :=
  { slot .passToken now with eventCount := octets, seq.retryCount := retries }

/-- Silence 19 with 5 and with 4 octets; silence 20 with 0 and with 1 retries. -/
theorem witness_PassTokenBranches :
    (let s := passing 5 0 19;
      s.AtSlot 19 [] ∧ s.seq.state = .passToken ∧ 19 - s.rx.lastNonSilence < (s.cfg.usageTimeout : Int) ∧
        s.params.nMinOctets < s.eventCount) ∧
    (let s := passing 4 0 19;
      s.AtSlot 19 [] ∧ s.seq.state = .passToken ∧ 19 - s.rx.lastNonSilence < (s.cfg.usageTimeout : Int) ∧
        s.eventCount ≤ s.params.nMinOctets) ∧
    (let s := passing 0 0 20;
      s.AtSlot 20 [] ∧ s.seq.state = .passToken ∧ (s.cfg.usageTimeout : Int) ≤ 20 - s.rx.lastNonSilence ∧
        s.seq.retryCount < s.params.nRetryToken) ∧
    (let s := passing 0 1 20;
      s.AtSlot 20 [] ∧ s.seq.state = .passToken ∧ (s.cfg.usageTimeout : Int) ≤ 20 - s.rx.lastNonSilence ∧
        s.params.nRetryToken ≤ s.seq.retryCount) := by decide

/-- The silence lies in NO_TOKEN's waiting part, in its slot window, after it, or past the whole range. -/
def noTokenPart (s : State) (now : Int) : List Bool :=
  let quiet := now - s.rx.lastNonSilence
  let delay : Int := s.params.tNoToken + s.params.tSlot * s.cfg.thisStation.toNat
  let bound : Int := s.params.tNoToken + s.params.tSlot * (s.cfg.maxMaster.toNat + 1)
  [decide (quiet < delay), decide (delay ≤ quiet ∧ quiet < delay + s.params.tSlot),
    decide (delay + s.params.tSlot ≤ quiet ∧ quiet ≤ bound), decide (bound < quiet)]

/-- Station 1 with `maxMaster` 3: silence 509 (with 5 octets and with none), 510, 519, 520, 540 and 541. -/
theorem witness_NoTokenBranches :
    (∀ now ∈ [(509 : Int), 510, 519, 520, 540, 541],
      (slot .noToken now).AtSlot now [] ∧ (slot .noToken now).seq.state = .noToken ∧
      (slot .noToken now).cfg.thisStation.toNat ≤ (slot .noToken now).cfg.maxMaster.toNat) ∧
    ([509, 510, 519, 520, 540, 541].map fun now : Int => noTokenPart (slot .noToken now) now) =
      [[true, false, false, false], [false, true, false, false], [false, true, false, false],
        [false, false, true, false], [false, false, true, false], [false, false, false, true]] ∧
    (slot .noToken 509).eventCount ≤ (slot .noToken 509).params.nMinOctets ∧
    (let s := { slot .noToken 509 with eventCount := 5 };
      s.AtSlot 509 [] ∧ noTokenPart s 509 = [true, false, false, false] ∧ s.params.nMinOctets < s.eventCount) := by decide

/-- POLL_FOR_MASTER with `maxMaster` 3. -/
def polling (next poll : Octet) (sole : Bool) (now : Int) : State :=
  { slot .pollForMaster now with seq.nextStation := next, seq.pollStation := poll, seq.soleMaster := sole }

/-- The four branches' common hypotheses, and whether the poll's wait is over. -/
def pollOver (s : State) (now : Int) : Option Bool :=
  if s.AtSlot now [] ∧ s.seq.state = .pollForMaster ∧ s.rx.receivedValidFrame = false then
    some (decide ((s.cfg.usageTimeout : Int) ≤ now - s.rx.lastNonSilence ∨ s.rx.receivedInvalidFrame ≠ none))
  else none

/-- Silence 19; then as sole master, with a successor, with stations left, and with none left, at silence 20. -/
theorem witness_PollUnansweredBranches :
    pollOver (polling 1 2 false 19) 19 = some false ∧
    pollOver { polling 1 2 true 19 with rx.receivedInvalidFrame := some .badHeaderCrc } 19 = some true ∧
    (let s := polling 1 2 true 20; pollOver s 20 = some true ∧ s.seq.soleMaster = true) ∧
    (let s := polling 3 2 false 20;
      pollOver s 20 = some true ∧ s.seq.soleMaster = false ∧ s.seq.nextStation ≠ s.cfg.thisStation) ∧
    (let s := polling 1 2 false 20;
      pollOver s 20 = some true ∧ s.seq.soleMaster = false ∧ s.seq.nextStation = s.cfg.thisStation ∧
      s.adjacent s.seq.pollStation ≠ s.cfg.thisStation) ∧
    (let s := polling 1 0 false 20;
      pollOver s 20 = some true ∧ s.seq.soleMaster = false ∧ s.seq.nextStation = s.cfg.thisStation ∧
      s.adjacent s.seq.pollStation = s.cfg.thisStation) := by decide

theorem witness_RequestTailEntersAnswerState :
    (node 1 .idle (.idleDerTail 2) [.worker 5]).env.schedule = [.worker 5] ∧
    (node 1 .idle (.idleDerTail 2) [.worker 5]).seq.phase = .idleDerTail 2 := by decide

/-- ANSWER_DATA_REQUEST with the deadline 1250. -/
def answering (now : Int) : State := { slot .answerDataRequest now with seq.replyDeadline := 1250 }

/-- A filled slot; an empty one at 1251, 999, and at 1000 and 1250. -/
theorem witness_AnswerDataRequestBranches :
    (let s := { answering 5 with buf.replyFrame := some ⟨0x04, 2, 1, [7]⟩ };
      s.AtSlot 5 [] ∧ s.seq.state = .answerDataRequest ∧ s.buf.replyFrame = some ⟨0x04, 2, 1, [7]⟩) ∧
    (∀ now ∈ [(1251 : Int), 999, 1000, 1250],
      (answering now).AtSlot now [] ∧ (answering now).seq.state = .answerDataRequest ∧
      (answering now).buf.replyFrame = none) ∧
    (answering 1251).seq.replyDeadline < 1251 ∧
    ((999 : Int) ≤ (answering 999).seq.replyDeadline ∧
      ((answering 999).params.tReplyDelay : Int) < (answering 999).seq.replyDeadline - 999) ∧
    (∀ now ∈ [(1000 : Int), 1250],
      now ≤ (answering now).seq.replyDeadline ∧
      (answering now).seq.replyDeadline - now ≤ ((answering now).params.tReplyDelay : Int)) := by decide

/-- Each of the five states that examine no frames. -/
theorem witness_UnexaminedIndicationsStay :
    ∀ m ∈ [MasterState.useToken, .doneWithToken, .passToken, .noToken, .answerDataRequest],
      (slot m 5).env.schedule = [.worker 5] ∧ (slot m 5).seq.phase ≠ .drain ∧ (slot m 5).seq.state = m ∧
      (after (step (slot m 5))).isSome = true := by decide +kernel

theorem witness_ConfigFaultChangesNothing :
    (runHostOp (.setUsageTimeout 19) (slot .idle 5)).env.returned =
      (slot .idle 5).env.returned ++ [⟨.setUsageTimeout 19, .configFault .usageTimeout⟩] := by decide

/-- Station −1, 128 and 127; type 0x07; 502 octets. -/
theorem witness_ConfigFaultPriority :
    ((-1 : Int) < 0 ∨ 127 < (-1 : Int)) ∧ ((128 : Int) < 0 ∨ 127 < (128 : Int)) ∧
    ((0 : Int) ≤ 127 ∧ (127 : Int) ≤ 127 ∧ (-1 : Int) < 0) ∧ (0x07#8) ∉ [0x05#8, 0x06#8, 0x03#8] ∧
    (0x03#8) ∈ [0x05#8, 0x06#8, 0x03#8] ∧ 501 < (zeros 502).length ∧ (zeros 501).length ≤ 501 ∧
    (slot .idle 5).seq.state ≠ .answerDataRequest := by decide +kernel

/-- Each end of each range, and the values beside it. -/
theorem witness_SettersWriteInRange :
    let ts : Int := (slot .idle 5).cfg.thisStation.toNat
    (ts ≤ 1 ∧ (1 : Int) ≤ 127) ∧ (ts ≤ 127 ∧ (127 : Int) ≤ 127) ∧ (0 < ts ∨ 127 < (0 : Int)) ∧
      (128 < ts ∨ (127 : Int) < 128) ∧ (1 : Int) ≤ 1 ∧ (0 : Int) < 1 ∧ ((20 : Int) ≤ 20 ∧ (100 : Int) ≤ 100) ∧
      ((19 : Int) < 20 ∨ 100 < (19 : Int)) ∧ ((101 : Int) < 20 ∨ (100 : Int) < 101) := by decide

/-- A block whose queue takes one frame, holding `frames`. -/
def oneFrameQueue (frames : List Frame) : State :=
  { slot .idle 5 with params.queueCapacity := some 1, buf.framesToSend := frames }

/-- A call of each operation held on a full queue. -/
def heldCalls : List WaitingCall :=
  [⟨.queueFrame 0x05 2 [], ⟨0x05, 2, 1, []⟩⟩, ⟨.setReplyFrame 0x06 2 [9], ⟨0x06, 2, 1, [9]⟩⟩]

/-- Room for the last frame of a bounded queue, and a full queue; a held call that looks again, the second of two and a
`setReplyFrame`, with room and without; and no third call. -/
theorem witness_QueueFramePushesOrHolds :
    (0x05#8) ∈ [0x05#8, 0x06#8, 0x03#8] ∧ (zeros 501).length ≤ codec.maxData ∧
    (∀ c, (oneFrameQueue []).params.queueCapacity = some c → (oneFrameQueue []).buf.framesToSend.length < c) ∧
    (∃ c, (oneFrameQueue [⟨0x06, 2, 1, []⟩]).params.queueCapacity = some c ∧
      c ≤ (oneFrameQueue [⟨0x06, 2, 1, []⟩]).buf.framesToSend.length) ∧
    (∀ frames ∈ [[], [⟨0x06, 2, 1, []⟩]],
      { oneFrameQueue frames with env.waiting := heldCalls }.env.waiting[1]? =
        some ⟨.setReplyFrame 0x06 2 [9], ⟨0x06, 2, 1, [9]⟩⟩) ∧
    { oneFrameQueue [] with env.waiting := heldCalls }.env.waiting[2]? = none := by
  refine ⟨by decide, by decide +kernel, ?_, ⟨1, rfl, by decide⟩, by decide, by decide⟩
  intro c h
  cases h
  decide

/-- The answering state and another; room and no room as for `queueFrame`. -/
theorem witness_SetReplyFrameFillsSlotOrQueues :
    (zeros 501).length ≤ 501 ∧ (slot .answerDataRequest 5).seq.state = .answerDataRequest ∧
    (oneFrameQueue []).seq.state ≠ .answerDataRequest ∧ (0x03#8) ∈ [0x05#8, 0x06#8, 0x03#8] := by decide +kernel

theorem witness_LifecycleOperations :
    (slot .idle 5).lifecycle ≠ .constructed ∧ State.reset.lifecycle = .constructed := by decide

theorem witness_ConstructGivesResetValues : (127 : Nat) ≤ 127 ∧ (0 : Nat) ≤ 127 := by decide

/-- An event of each kind comes next; every operation that is no construction, `initialize` among them. -/
theorem witness_HostOperationsLeaveWorkerState :
    (node 1 .idle .drain [.host .terminate 7, .worker 8]).env.schedule = .host .terminate 7 :: [.worker 8] ∧
    (node 1 .idle .drain [.receive [0x55, 0xFF], .worker 8]).env.schedule = .receive [0x55, 0xFF] :: [.worker 8] ∧
    (node 1 .idle .drain [.resume 1, .worker 8]).env.schedule = .resume 1 :: [.worker 8] ∧
    ∀ op ∈ [HostOp.initializeBlock, .terminate, .hasReceivedToken, .setMaxMaster 4, .queueFrame 0x05 2 []],
      ∀ ts rc, op ≠ .construct ts rc := by
  refine ⟨rfl, rfl, rfl, fun op h ts rc e => ?_⟩
  subst e
  simp at h

/-- The helper's states are well formed; the parts of `State.Wf` in its order. -/
theorem wf_parts {s : State} (h1 : s.params.WellFormed) (h2 : s.ConfigOk) (h3 : s.QueueOk) (h4 : s.ReplyOk)
    (h5 : s.FrameOk) (h6 : s.rx.ParserOk s.params.codec) (h7 : s.TokenOk) (h8 : s.PhaseOk) : s.Wf := ⟨h1, h2, h3, h4, h5, h6, h7, h8⟩

theorem witness_ReplyInsideHookIsQueued :
    let s := node 1 .idle (.idleDerTail 2) [.host (.setReplyFrame 0x06 2 [9]) 5, .worker 6]
    s.Wf ∧ s.seq.phase = .idleDerTail 2 ∧ (0x06#8) ∈ [0x05#8, 0x06#8, 0x03#8] ∧ [(9 : Octet)].length ≤ 501 ∧
      s.params.queueCapacity = none ∧ s.env.schedule = [.host (.setReplyFrame 0x06 2 [9]) 5, .worker 6] := by
  refine ⟨wf_parts ?_ ?_ ?_ ?_ ?_ ?_ ?_ ?_, ?_, ?_, ?_, ?_, ?_⟩ <;> decide

/-- A well-formed state that owns the token, with a frame queued, one pending and a header under way. -/
def busy : State :=
  pending ⟨0xFF, 0xFF, 2, zeros 501⟩
    { slot .useToken 5 with
      seq.receivedToken := true, buf.framesToSend := [⟨0x03, 2, 1, zeros 501⟩], rx.rxState := .header,
      rx.rxHeader := [0x00, 0x01], rx.lastNonSilence := 6 }

theorem witness_StepKeepsWellFormedness : busy.Wf := by
  refine wf_parts ?_ ?_ ?_ ?_ ?_ ?_ ?_ ?_ <;> decide +kernel

/-- USE_TOKEN at the last frame of the budget. -/
theorem witness_StepKeepsFrameBudget :
    busy.Wf ∧ busy.BudgetOk ∧ isSetMaxInfoFrames busy.nextEvent = false ∧ ∃ s', step busy = .next s' := by
  refine ⟨witness_StepKeepsWellFormedness, by decide +kernel, by decide +kernel, ⟨_, rfl⟩⟩

/-- A token already received; a terminated block; a block that a step leaves constructed. -/
theorem witness_OneWayRegisters :
    (isConstruct busy.nextEvent = false ∧ (∃ s', step busy = .next s') ∧ busy.seq.receivedToken = true) ∧
    { slot .idle 5 with lifecycle := .terminated }.lifecycle = .terminated ∧
    (∃ s', step { State.reset with env.schedule := [.worker 0] } = .next s' ∧ s'.lifecycle = .constructed) := by
  refine ⟨⟨by decide +kernel, ⟨_, rfl⟩, rfl⟩, rfl, ⟨_, rfl, rfl⟩⟩

theorem witness_WorkerLeavesHostState :
    busy.env.schedule = [.worker 5] ∧ ∃ s', step busy = .next s' := ⟨rfl, ⟨_, rfl⟩⟩

theorem witness_OutputsOnlyGrow : ∃ s', step busy = .next s' ∧ s'.env.transmitted.length = 1 := ⟨_, rfl, rfl⟩

/-- One step that sends the queued frame. -/
theorem witness_QueuedFramesLeaveInPushOrder :
    1 ≤ busy.env.schedule.length ∧ (∀ e ∈ busy.env.schedule.take 1, isConstruct e = false) ∧
    ∃ s', core.run 1 busy = .next s' ∧ s'.buf.framesToSend = [] := by
  refine ⟨by decide +kernel, by decide +kernel, ⟨_, rfl, rfl⟩⟩

/-- The register at 127 and address 127; at 0 and address 0; the node's 3 and address 3. -/
theorem witness_AdjacentWalksTheRing :
    (127 : Octet).toNat ≤ { slot .idle 5 with cfg.maxMaster := 127 }.cfg.maxMaster.toNat ∧
    (0 : Octet).toNat ≤ { slot .idle 5 with cfg.maxMaster := 0 }.cfg.maxMaster.toNat ∧
    (3 : Octet).toNat ≤ (slot .idle 5).cfg.maxMaster.toNat := by decide

theorem witness_NegativeSilenceComparesAsZero : busy.Wf ∧ { busy with env.now := 5 }.env.now < busy.rx.lastNonSilence :=
  ⟨witness_StepKeepsWellFormedness, by decide +kernel⟩

/-- A step that transmits, on a bus of two. -/
theorem witness_BusCarriesToOtherNodesOnly :
    [slot .idle 5, busy][1]? = some busy ∧
    (∃ s' sent, step busy = .next s' ∧ s'.env.transmitted = busy.env.transmitted ++ sent ∧ sent.length = 1) ∧
    (∃ nodes, busStep [slot .idle 5, busy] 1 = .next nodes) ∧ (0 : Nat) ≠ 1 ∧
    [slot .idle 5, busy][0]? = some (slot .idle 5) := ⟨rfl, ⟨_, _, rfl, rfl, rfl⟩, ⟨_, rfl⟩, by decide, rfl⟩

end Sys2Proof.Tests
end

section
/-! PROOFS. A frame record and the instruction it is classified as stand for each other (R57, R61). -/

namespace Sys2Proof

theorem Instr.toFrame_ofFrame_type : ∀ t : Octet, (Instr.ofFrame ⟨t, 0, 0, []⟩).toFrame.type = t := by decide

/-- No bit of a frame record is lost when it is classified (R57, R61). -/
theorem Instr.toFrame_ofFrame (f : Frame) : (Instr.ofFrame f).toFrame = f := by
  have ht : (Instr.ofFrame f).toFrame.type = f.type :=
    (Instr.ofFrame_type f).trans (Instr.toFrame_ofFrame_type f.type)
  calc (Instr.ofFrame f).toFrame
      = ⟨(Instr.ofFrame f).toFrame.type, (Instr.ofFrame f).toFrame.destination,
          (Instr.ofFrame f).toFrame.source, (Instr.ofFrame f).toFrame.data⟩ := rfl
    _ = f := by rw [ht, Instr.ofFrame_destination, Instr.ofFrame_source, Instr.ofFrame_data]

end Sys2Proof
end

section
/-! PROOFS. What a handler writes, register group by register group, each read off the outcomes `Examined` and `Handled`
once; and the shape of a worker micro-step. -/

namespace Sys2Proof.Machine

section
variable {s t : State} {f : Frame}

theorem examined_of_exec (h : exec (Instr.ofFrame f) s = .next t) : Examined f s t := by
  obtain ⟨u, hu, he⟩ := exec_examined (Instr.ofFrame f) s
  rw [Instr.toFrame_ofFrame] at he
  cases hu.symm.trans h
  exact he

theorem State.pendingFrame_eq_some :
    s.pendingFrame = some f ↔ s.rx.receivedValidFrame = true ∧ s.rx.frame = some f := by
  simp [State.pendingFrame]

/-! ## The environment side -/

/-- What a handler adds to the output streams: nothing, one whole frame from this station, or one delivery event, each
stamped with the time input (R34, R100). -/
inductive Emits (s : State) : Environment → Prop
  | nothing : Emits s s.env
  | frame (type destination : Octet) (data : List Octet) : Emits s (s.sendFrame type destination data).env
  | delivery (d : Delivery) : Emits s (s.deliver d).env

theorem Emits.shape {e : Environment} (h : Emits s e) :
    ∃ transmitted delivered, e = { s.env with transmitted := transmitted, delivered := delivered } := by
  cases h <;> exact ⟨_, _, rfl⟩

theorem Examined.emits (h : Examined f s t) : Emits s t.env := by
  cases h
  case poll | successor => exact .frame ..
  case data | request | reply => exact .delivery _
  all_goals exact .nothing

theorem Handled.emits (h : Handled s t) : Emits s t.env := by
  cases h
  case examined hx => exact (examined_of_exec hx).emits
  case frameSent | pollFirst | passToken | pollGap | endGap | endGapAsSoleMaster | retryToken | findSuccessor
      | generateToken | passAfterPoll | pollNext | replySent | postponed => exact .frame ..
  all_goals exact .nothing

/-! ## Configuration and lifecycle -/

theorem Examined.keeps_config (h : Examined f s t) :
    t.params = s.params ∧ t.cfg = s.cfg ∧ t.lifecycle = s.lifecycle := by
  cases h <;> exact ⟨rfl, rfl, rfl⟩

/-- R49: no handler writes the parameters, a configuration register or the lifecycle. -/
theorem Handled.keeps_config (h : Handled s t) :
    t.params = s.params ∧ t.cfg = s.cfg ∧ t.lifecycle = s.lifecycle := by
  cases h
  case examined hx => exact (examined_of_exec hx).keeps_config
  all_goals exact ⟨rfl, rfl, rfl⟩

/-! ## Receiver registers -/

theorem Examined.rx_shape (h : Examined f s t) :
    ∃ stamp valid, t.rx = { s.rx with frame := some f, lastNonSilence := stamp, receivedValidFrame := valid } := by
  cases h <;> exact ⟨_, _, rfl⟩

/-- Of the receiver's registers a handler writes the silence timer and the two indications, and it sets no valid-frame
flag (R100, R183). -/
theorem Handled.rx_shape (h : Handled s t) :
    ∃ stamp valid cause, (valid = true → s.rx.receivedValidFrame = true) ∧
      t.rx = { s.rx with lastNonSilence := stamp, receivedValidFrame := valid, receivedInvalidFrame := cause } := by
  cases h
  case examined f _ hp hx =>
    obtain ⟨hv, hf⟩ := State.pendingFrame_eq_some.mp hp
    obtain ⟨stamp, valid, e⟩ := (examined_of_exec hx).rx_shape
    exact ⟨stamp, valid, s.rx.receivedInvalidFrame, fun _ => hv, by rw [e, ← hf]⟩
  all_goals exact ⟨_, _, _, id, rfl⟩

/-! ## Buffers -/

theorem Examined.keeps_buf (h : Examined f s t) : t.buf = s.buf := by
  cases h <;> rfl

/-- A handler leaves the queue, or takes its oldest frame (R114). -/
theorem Handled.framesToSend_cases (h : Handled s t) :
    t.buf.framesToSend = s.buf.framesToSend ∨ ∃ q, s.buf.framesToSend = q :: t.buf.framesToSend := by
  cases h
  case examined hx => exact .inl (by rw [(examined_of_exec hx).keeps_buf])
  case frameSent q _ _ _ hq _ => exact .inr ⟨q, hq⟩
  all_goals exact .inl rfl

/-- A handler leaves the reply slot empty, or as it was and then does not leave ANSWER_DATA_REQUEST (R143 to R147). -/
theorem Handled.replyFrame_cases (h : Handled s t) :
    t.buf.replyFrame = none ∨
    t.buf.replyFrame = s.buf.replyFrame ∧ (s.seq.state = .answerDataRequest → t.seq.state = .answerDataRequest) := by
  cases h
  case replySent => exact .inl rfl
  case postponed h _ => exact .inl h
  case waits | clamped => exact .inr ⟨rfl, id⟩
  case examined he _ hx =>
    exact .inr ⟨by rw [(examined_of_exec hx).keeps_buf], fun ha => by rw [ha] at he; cases he⟩
  -- The guard of every other outcome names another state.
  all_goals exact .inr ⟨rfl, fun ha => by simp_all⟩

/-! ## Sequencer registers -/

theorem Examined.keeps_receivedToken (h : Examined f s t) (hr : s.seq.receivedToken = true) :
    t.seq.receivedToken = true := by
  cases h
  case token => rfl
  all_goals exact hr

theorem Handled.keeps_receivedToken (h : Handled s t) (hr : s.seq.receivedToken = true) :
    t.seq.receivedToken = true := by
  cases h
  case examined hx => exact (examined_of_exec hx).keeps_receivedToken hr
  case declareSoleMaster => rfl
  all_goals exact hr

theorem Examined.state_of_inTail (h : Examined f s t) (hp : inTail t.seq.phase = true) :
    inTail s.seq.phase = true ∨ t.seq.state = .idle := by
  cases h
  case request hs _ _ => exact .inr hs
  all_goals exact .inl hp

/-- IDLE_DER_TAIL is entered by a request in IDLE alone (R112). -/
theorem Handled.state_of_inTail (h : Handled s t) (hp : inTail t.seq.phase = true) :
    inTail s.seq.phase = true ∨ t.seq.state = .idle := by
  cases h
  case examined hx => exact (examined_of_exec hx).state_of_inTail hp
  all_goals exact .inl hp

/-! ## The worker's micro-step -/

/-- The state a worker micro-step leaves, but for the phase: what the current state's handler answers, what the drain
leaves, or what IDLE_DER_TAIL writes (R103). -/
theorem workerStep_shape (h : workerStep s = .next t) :
    ∃ u p, t = u.setPhase p ∧ (Handled s u ∨ u = s.drain ∨ ∃ source, u = s.idleDerTail source) := by
  rcases workerStep_cases h with ⟨-, -, rfl⟩ | ⟨-, -, rfl⟩ | ⟨m, -, -, rfl⟩ | ⟨u, -, hu, rfl⟩ | ⟨source, -, rfl⟩
  · exact ⟨s.drain, _, rfl, .inr (.inl rfl)⟩
  · exact ⟨t, t.seq.phase, rfl, .inl .waits⟩
  · obtain ⟨p, e, -⟩ := s.advance_shape m
    exact ⟨s, p, e, .inl .waits⟩
  · obtain ⟨p, e, -⟩ := u.advance_shape s.seq.state
    exact ⟨u, p, e, .inl (handler_handled hu)⟩
  · exact ⟨s.idleDerTail source, _, rfl, .inr (.inr ⟨source, rfl⟩)⟩

/-- A frame that can be queued has a type USE_TOKEN knows (R30, R114). -/
theorem afterQueuedFrame_of_queueable {type : Octet} (h : queueableType type = true) :
    ∃ m, afterQueuedFrame type = some m := by
  simp only [queueableType, Bool.or_eq_true, beq_iff_eq] at h
  rcases h with (rfl | rfl) | rfl
  · exact ⟨.waitForReply, by decide⟩
  · exact ⟨.doneWithToken, by decide⟩
  · exact ⟨.waitForReply, by decide⟩

/-- A queued frame sent ends the stay in USE_TOKEN (R114). -/
theorem afterQueuedFrame_ne_useToken {type : Octet} {m : MasterState} (h : afterQueuedFrame type = some m) :
    m ≠ .useToken := by
  unfold afterQueuedFrame at h
  split_ifs at h <;> cases h <;> exact nofun

/-- With a legal queue no handler faults (R114). -/
theorem handler_next (hq : s.QueueOk) : ∃ t, handler s.seq.state s = .next t := by
  by_contra hno
  obtain ⟨-, q, rest, hb, hnone⟩ := handler_fault (not_exists.mp hno)
  obtain ⟨hqueueable, -⟩ := hq.1 q (hb ▸ List.mem_cons_self)
  obtain ⟨m, hm⟩ := afterQueuedFrame_of_queueable hqueueable
  exact absurd (hnone.symm.trans hm) nofun

theorem workerStep_next (hq : s.QueueOk) : ∃ t, workerStep s = .next t := by
  cases hp : s.seq.phase with
  | drain =>
    by_cases hr : s.lifecycle = .running
    · exact ⟨_, workerStep_drain hp hr⟩
    · exact ⟨_, workerStep_notRunning hp hr⟩
  | slot m =>
    by_cases hm : s.seq.state = m
    · subst hm
      obtain ⟨t, ht⟩ := handler_next hq
      exact ⟨t.advance s.seq.state, by rw [workerStep_slot hp, ht, thenNext]⟩
    · exact ⟨_, workerStep_empty hp hm⟩
  | idleDerTail source => exact ⟨_, workerStep_tail hp⟩

end

end Sys2Proof.Machine
end

section
/-! PROOFS. The receiver keeps its registers in the shape of the parser's state, and records no frame of more than
`MAX_DATA` octets (R26, R29, R84 to R92). -/

namespace Sys2Proof.Machine

section
variable {s : State}

/-- The receiver's share of a well-formed state. -/
abbrev State.ReceiverOk (s : State) : Prop := s.FrameOk ∧ s.rx.ParserOk s.params.codec

theorem State.recordValid_frameOk {f : Frame} (hf : f.WellFormed s.params.codec) : (s.recordValid f).FrameOk :=
  ⟨fun _ => rfl, decide_eq_true hf⟩

theorem State.resetParser_receiverOk (h : s.FrameOk) : s.resetParser.ReceiverOk :=
  ⟨h, fun _ => ⟨rfl, rfl, rfl⟩, nofun, nofun⟩

theorem State.headerDone_receiverOk (hf : s.FrameOk) (h6 : s.rx.rxHeader.length = 6) : s.headerDone.1.ReceiverOk := by
  unfold State.headerDone
  simp only
  split_ifs with hcrc hlong hzero
  · exact State.resetParser_receiverOk hf
  · exact State.resetParser_receiverOk hf
  · exact State.resetParser_receiverOk (State.recordValid_frameOk (Nat.zero_le _))
  · have hpos : 1 ≤ (frameLength (s.rx.rxHeader.getD 3 0) (s.rx.rxHeader.getD 4 0)).toNat :=
      Nat.one_le_iff_ne_zero.mpr fun h => hzero (BitVec.eq_of_toNat_eq h)
    exact ⟨hf, nofun, nofun, fun _ => ⟨h6, not_ne_iff.mp hcrc, rfl, hpos, not_lt.mp hlong, Nat.succ_pos _⟩⟩

theorem State.dataDone_receiverOk (hf : s.FrameOk) (hl : s.rx.rxLen.toNat ≤ s.params.codec.maxData) :
    s.dataDone.1.ReceiverOk := by
  unfold State.dataDone
  simp only
  split_ifs
  · exact State.resetParser_receiverOk (State.recordValid_frameOk ((List.length_take_le ..).trans hl))
  · exact State.resetParser_receiverOk hf

theorem State.parserStep_receiverOk (h : s.ReceiverOk) (b : Octet) : (s.parserStep b).1.ReceiverOk := by
  obtain ⟨hf, hidle, hheader, hdata⟩ := h
  unfold State.parserStep
  cases hs : s.rx.rxState <;> simp only
  case idle =>
    split_ifs
    · exact ⟨hf, fun _ => hidle (.inl hs), nofun, nofun⟩
    · exact ⟨hf, hidle, hheader, hdata⟩
  case preamble1 =>
    have empty := hidle (.inr (.inl hs))
    split_ifs
    · exact ⟨hf, fun _ => empty, nofun, nofun⟩
    · exact ⟨hf, hidle, hheader, hdata⟩
    · exact ⟨hf, fun _ => empty, nofun, nofun⟩
  case preamble2 =>
    obtain ⟨-, hx, hl⟩ := hidle (.inr (.inr hs))
    exact ⟨hf, nofun, fun _ => ⟨le_rfl, by simp, hx, hl⟩, nofun⟩
  case header =>
    obtain ⟨-, h5, hx, hl⟩ := hheader hs
    split_ifs with h6
    · exact State.headerDone_receiverOk hf h6
    · simp only [List.length_append, List.length_singleton] at h6
      exact ⟨hf, by simp [hs], fun _ => ⟨by simp, by simp; omega, hx, hl⟩, by simp [hs]⟩
  case data =>
    obtain ⟨h6, hcrc, hl, hpos, hmax, hlen⟩ := hdata hs
    split_ifs with hend
    · exact State.dataDone_receiverOk hf hmax
    · simp only [List.length_append, List.length_singleton] at hend
      exact ⟨hf, by simp [hs], by simp [hs], fun _ => ⟨h6, hcrc, hl, hpos, hmax, by simp; omega⟩⟩

theorem State.rxOctet_receiverOk (h : s.ReceiverOk) (b : Octet) : (s.rxOctet b).1.ReceiverOk :=
  State.parserStep_receiverOk (s := { s with eventCount := s.eventCount + 1, rx.lastNonSilence := s.env.now }) h b

theorem State.readOctets_receiverOk (octets : List Octet) :
    ∀ {s : State}, s.ReceiverOk → (s.readOctets octets).ReceiverOk := by
  induction octets with
  | nil => exact id
  | cons b rest ih =>
    intro s h
    have hb := State.rxOctet_receiverOk h b
    cases hc : (s.rxOctet b).2 with
    | true => rw [State.readOctets_completed hc]; exact hb
    | false => rw [State.readOctets_cons hc]; exact ih hb

theorem State.abortCheck_receiverOk (h : s.ReceiverOk) : s.abortCheck.ReceiverOk := by
  unfold State.abortCheck
  split
  · split
    · exact h
    · exact State.resetParser_receiverOk h.1
    · exact State.resetParser_receiverOk h.1
  · exact h

theorem State.drain_receiverOk (h : s.ReceiverOk) : s.drain.ReceiverOk := by
  have ha := State.abortCheck_receiverOk h
  unfold State.drain
  split
  · exact ha
  · exact State.readOctets_receiverOk _ ha

end

end Sys2Proof.Machine
end

section
/-! PROOFS. Every step of a well-formed state answers a well-formed next state: each part of the invariant for the
handlers, then the worker's micro-step, the host operations, and the step. -/

namespace Sys2Proof.Machine

section
variable {s t : State} {f : Frame}

/-! ## Handlers -/

theorem Handled.keeps_receiverOk (h : Handled s t) (hs : s.ReceiverOk) : t.ReceiverOk := by
  obtain ⟨⟨hv, hf⟩, hx⟩ := hs
  obtain ⟨stamp, valid, cause, hvalid, e⟩ := h.rx_shape
  rw [State.ReceiverOk, State.FrameOk, e, h.keeps_config.1]
  exact ⟨⟨fun hn => hv (hvalid hn), hf⟩, hx⟩

theorem Handled.keeps_queueOk (h : Handled s t) (hq : s.QueueOk) : t.QueueOk := by
  obtain ⟨hf, hw, hl⟩ := hq
  obtain ⟨hp, hc, -⟩ := h.keeps_config
  obtain ⟨sent, delivered, he⟩ := h.emits.shape
  rw [State.QueueOk, hp, hc, he]
  rcases h.framesToSend_cases with hb | ⟨q, hb⟩
  · rw [hb]; exact ⟨hf, hw, hl⟩
  · rw [hb] at hf hl
    refine ⟨fun g hg => hf g (List.mem_cons_of_mem _ hg), hw, ?_⟩
    cases hcap : s.params.queueCapacity with
    | none => exact le_rfl
    | some c => rw [hcap] at hl; exact (Nat.le_succ _).trans hl

theorem Handled.keeps_replyOk (h : Handled s t) (hr : s.ReplyOk) : t.ReplyOk := by
  obtain ⟨hs, hf⟩ := hr
  obtain ⟨hp, hc, -⟩ := h.keeps_config
  rw [State.ReplyOk, hp, hc]
  rcases h.replyFrame_cases with hb | ⟨hb, hstate⟩
  · rw [hb]; exact ⟨nofun, rfl⟩
  · rw [hb]; exact ⟨fun hsome => hstate (hs hsome), hf⟩

theorem Examined.keeps_tokenOk (h : Examined f s t) (ht : s.TokenOk) : t.TokenOk := by
  obtain ⟨hown, hsole⟩ := ht
  cases h
  case token => exact ⟨fun _ => rfl, nofun⟩
  case toIdle => exact ⟨nofun, hsole⟩
  case successor => exact ⟨nofun, nofun⟩
  case reply hs _ _ | postponed hs _ _ => exact ⟨fun _ => hown (by rw [hs]; rfl), hsole⟩
  all_goals exact ⟨hown, hsole⟩

theorem Handled.keeps_tokenOk (h : Handled s t) (ht : s.TokenOk) : t.TokenOk := by
  obtain ⟨hown, hsole⟩ := ht
  cases h
  case examined hx => exact (examined_of_exec hx).keeps_tokenOk ⟨hown, hsole⟩
  case waits | invalidDropped | clamped | retryToken | pollNext => exact ⟨hown, hsole⟩
  -- Within a possession.
  case queueEmpty hs _ | replyTimeout hs _ | waitBroken hs _ | useAgain hs _ | keepToken hs _ _ _ | frameSent hs _ _ =>
    exact ⟨fun _ => hown (by rw [hs]; rfl), hsole⟩
  case ownPollEnded h1 => exact ⟨fun _ => (hsole h1).1, hsole⟩
  case declareSoleMaster h2 _ => exact ⟨fun _ => rfl, fun _ => ⟨rfl, h2⟩⟩
  -- `nextStation` becomes this station.
  case endGapAsSoleMaster | findSuccessor | generateToken => exact ⟨nofun, fun h => ⟨(hsole h).1, rfl⟩⟩
  -- The token is not owned afterwards.
  all_goals exact ⟨nofun, hsole⟩

theorem Handled.keeps_wf (h : Handled s t) (hw : s.Wf) (hp : inTail s.seq.phase = false)
    (hl : s.lifecycle ≠ .constructed) : t.Wf := by
  obtain ⟨hparams, hcfg, hqueue, hreply, hframe, hparser, htoken, -⟩ := hw
  obtain ⟨ep, ec, el⟩ := h.keeps_config
  obtain ⟨hframe', hparser'⟩ := h.keeps_receiverOk ⟨hframe, hparser⟩
  have hcfg' : t.ConfigOk := by rw [State.ConfigOk, ec]; exact hcfg
  have hphase' : t.PhaseOk :=
    ⟨fun ht => (h.state_of_inTail ht).resolve_left (by simp [hp]), fun hc => absurd (el ▸ hc) hl⟩
  exact ⟨ep ▸ hparams, hcfg', h.keeps_queueOk hqueue, h.keeps_replyOk hreply, hframe', hparser', h.keeps_tokenOk htoken,
    hphase'⟩

/-! ## The worker's micro-step -/

theorem State.drain_keeps_wf (hw : s.Wf) : s.drain.Wf := by
  obtain ⟨hparams, hcfg, hqueue, hreply, hframe, hparser, htoken, hphase⟩ := hw
  have hrx := State.drain_receiverOk ⟨hframe, hparser⟩
  obtain ⟨count, rx, fifo, e⟩ := s.drain_shape
  rw [e] at hrx ⊢
  exact ⟨hparams, hcfg, hqueue, hreply, hrx.1, hrx.2, htoken, hphase⟩

theorem State.setPhase_keeps_wf {p : Phase} (hw : s.Wf) (hl : s.lifecycle ≠ .constructed)
    (hp : inTail p = true → inTail s.seq.phase = true) : (s.setPhase p).Wf := by
  obtain ⟨hparams, hcfg, hqueue, hreply, hframe, hparser, htoken, htail, -⟩ := hw
  exact ⟨hparams, hcfg, hqueue, hreply, hframe, hparser, htoken, fun h => htail (hp h), fun h => absurd h hl⟩

theorem State.advance_keeps_wf (hw : s.Wf) (hl : s.lifecycle ≠ .constructed) (m : MasterState) :
    (s.advance m).Wf := by
  obtain ⟨p, e, hp⟩ := s.advance_shape m
  rw [e]
  exact State.setPhase_keeps_wf hw hl hp

theorem State.idleDerTail_keeps_wf (hw : s.Wf) (hl : s.lifecycle ≠ .constructed) (source : Octet) :
    (s.idleDerTail source).Wf := by
  obtain ⟨hparams, hcfg, hqueue, ⟨-, hreply⟩, hframe, hparser, ⟨-, hsole⟩, -⟩ := hw
  exact ⟨hparams, hcfg, hqueue, ⟨fun _ => rfl, hreply⟩, hframe, hparser, ⟨nofun, hsole⟩, nofun, fun h => absurd h hl⟩

/-- A cycle is under way only in a block that is no longer CONSTRUCTED (R231). -/
theorem State.Wf.not_constructed (hw : s.Wf) (hp : s.seq.phase ≠ .drain) : s.lifecycle ≠ .constructed := by
  obtain ⟨-, -, -, -, -, -, -, -, hc⟩ := hw
  exact fun h => hp (hc h).1

theorem workerStep_keeps_wf (hw : s.Wf) (h : workerStep s = .next t) : t.Wf := by
  rcases workerStep_cases h with ⟨-, hr, rfl⟩ | ⟨-, -, rfl⟩ | ⟨m, hp, -, rfl⟩ | ⟨u, hp, hu, rfl⟩ | ⟨source, hp, rfl⟩
  · obtain ⟨_, _, _, e⟩ := s.drain_shape
    have hl : s.drain.lifecycle ≠ .constructed := by rw [e]; simp [hr]
    exact State.setPhase_keeps_wf (State.drain_keeps_wf hw) hl nofun
  · exact hw
  · exact State.advance_keeps_wf hw (State.Wf.not_constructed hw (by simp [hp])) m
  · have hl := State.Wf.not_constructed hw (by simp [hp])
    have hh := handler_handled hu
    exact State.advance_keeps_wf (hh.keeps_wf hw (by rw [hp]; rfl) hl) (by rw [hh.keeps_config.2.2]; exact hl) _
  · exact State.idleDerTail_keeps_wf hw (State.Wf.not_constructed hw (by simp [hp])) source

/-! ## Host operations -/

theorem State.pushFrame_keeps_queueOk (hq : s.QueueOk) (hf : QueuedFrameOk s.params.codec s.cfg.thisStation f)
    (hr : s.queueHasRoom = true) : (s.pushFrame f).QueueOk := by
  obtain ⟨hall, hwait, -⟩ := hq
  refine ⟨fun g hg => ?_, hwait, ?_⟩
  · rcases List.mem_append.mp hg with hg | hg
    · exact hall g hg
    · rw [List.mem_singleton.mp hg]; exact hf
  · cases hc : s.params.queueCapacity with
    | none => simp [hc]
    | some c =>
      have hlt := s.queueHasRoom_iff.mp hr c hc
      simpa [hc] using hlt

theorem State.holdCall_keeps_queueOk (hq : s.QueueOk) (op : HostOp)
    (hf : QueuedFrameOk s.params.codec s.cfg.thisStation f) : (s.holdCall op f).QueueOk := by
  obtain ⟨hall, hwait, hl⟩ := hq
  refine ⟨hall, fun w hm => ?_, hl⟩
  rcases List.mem_append.mp hm with hm | hm
  · exact hwait w hm
  · rw [List.mem_singleton.mp hm]; exact hf

/-- A new block is well formed when the parameters and its address are legal (R230). -/
theorem State.constructed_wf {p : Config.Params} {ts : Octet} {rc : Nat} {env : Environment} (hp : p.WellFormed)
    (hts : ts.toNat ≤ Config.maxMaster) (he : env.waiting = []) : (State.constructed p ts rc env).Wf := by
  have ⟨_, _, _, _, _, hmax, hinfo, hlow, hhigh, _⟩ := hp
  have hqueue : (State.constructed p ts rc env).QueueOk :=
    ⟨nofun, fun w hw => absurd (he ▸ hw : w ∈ []) List.not_mem_nil, Nat.zero_le _⟩
  exact ⟨hp, ⟨hts.trans hmax.ge, hmax.le, hinfo, hlow, hhigh⟩, hqueue, ⟨nofun, rfl⟩, ⟨nofun, rfl⟩,
    ⟨fun _ => ⟨rfl, rfl, rfl⟩, nofun, nofun⟩, ⟨nofun, nofun⟩, nofun, fun _ => ⟨rfl, rfl⟩⟩

/-- A legal address argument fits the address register (R156, R162). -/
theorem ofNat_toNat_of_le_maxMaster {n : Int} (h0 : 0 ≤ n) (h : n ≤ Config.maxMaster) :
    ((BitVec.ofNat 8 n.toNat).toNat : Int) = n := by
  have hn : n.toNat < 2 ^ 8 := by simp only [Config.maxMaster] at h; omega
  rw [BitVec.toNat_ofNat, Nat.mod_eq_of_lt hn, Int.toNat_of_nonneg h0]

theorem HostEffect.keeps_wf {op : HostOp} (h : HostEffect op s t) (hw : s.Wf) : t.Wf := by
  have ⟨hparams, hcfg, hqueue, hreply, hframe, hparser, htoken, hphase⟩ := hw
  cases h
  case faulted | tokenAsked => exact hw
  case pushed ht hl hr =>
    exact ⟨hparams, hcfg, State.pushFrame_keeps_queueOk hqueue ⟨ht, hl, rfl⟩ hr, hreply, hframe, hparser, htoken, hphase⟩
  case held ht hl _ =>
    exact ⟨hparams, hcfg, State.holdCall_keeps_queueOk hqueue op ⟨ht, hl, rfl⟩, hreply, hframe, hparser, htoken, hphase⟩
  case replied hs hl =>
    exact ⟨hparams, hcfg, hqueue, ⟨fun _ => hs, decide_eq_true ⟨hl, rfl⟩⟩, hframe, hparser, htoken, hphase⟩
  case maxMasterSet n _ h1 h2 =>
    obtain ⟨-, -, hinfo, husage⟩ := hcfg
    have hn := ofNat_toNat_of_le_maxMaster (by omega) h2
    exact ⟨hparams, ⟨Int.ofNat_le.mp (h1.trans hn.ge), Int.ofNat_le.mp (hn.le.trans h2), hinfo, husage⟩, hqueue, hreply,
      hframe, hparser, htoken, hphase⟩
  case maxInfoFramesSet n _ h1 =>
    obtain ⟨hts, hmax, -, husage⟩ := hcfg
    have hn : 1 ≤ n.toNat := by omega
    exact ⟨hparams, ⟨hts, hmax, hn, husage⟩, hqueue, hreply, hframe, hparser, htoken, hphase⟩
  case usageTimeoutSet n _ h1 h2 =>
    obtain ⟨hts, hmax, hinfo, -⟩ := hcfg
    have hn : 20 ≤ n.toNat ∧ n.toNat ≤ 100 := by omega
    exact ⟨hparams, ⟨hts, hmax, hinfo, hn⟩, hqueue, hreply, hframe, hparser, htoken, hphase⟩
  case terminated => exact ⟨hparams, hcfg, hqueue, ⟨nofun, rfl⟩, hframe, hparser, htoken, hphase.1, nofun⟩
  case initialized => exact ⟨hparams, hcfg, hqueue, hreply, hframe, hparser, htoken, hphase.1, nofun⟩
  case constructed ts rc _ h1 h2 _ =>
    have hts := ofNat_toNat_of_le_maxMaster h1 h2
    exact State.constructed_wf hparams (Int.ofNat_le.mp (hts.le.trans h2)) rfl

theorem State.resumeCall_keeps_wf (hw : s.Wf) (k : Nat) : (s.resumeCall k).Wf := by
  rcases s.resumeCall_cases k with e | ⟨w, hk, hr, e⟩
  · rw [e]; exact hw
  · obtain ⟨hparams, hcfg, ⟨hall, hwait, hl⟩, hreply, hframe, hparser, htoken, hphase⟩ := hw
    have herased : State.QueueOk { s with env.waiting := s.env.waiting.eraseIdx k } :=
      ⟨hall, fun v hv => hwait v (List.mem_of_mem_eraseIdx hv), hl⟩
    have hqueue := State.pushFrame_keeps_queueOk herased (hwait w (List.mem_of_getElem? hk)) hr
    rw [e]
    exact ⟨hparams, hcfg, hqueue, hreply, hframe, hparser, htoken, hphase⟩

/-! ## The step -/

theorem State.takeEvent_keeps_wf (hw : s.Wf) : s.takeEvent.Wf := by
  obtain ⟨_, _, e⟩ := s.takeEvent_shape
  rw [e]
  exact hw

theorem runEvent_keeps_wf (hw : s.Wf) (e : Event) : ∃ t, runEvent e s = .next t ∧ t.Wf := by
  cases e with
  | worker now =>
    have ⟨_, _, hqueue, _⟩ := hw
    obtain ⟨t, ht⟩ := workerStep_next (s := s.atTime now) hqueue
    exact ⟨t, ht, workerStep_keeps_wf (s := s.atTime now) hw ht⟩
  | host op now => exact ⟨_, rfl, (runHostOp_effect op (s.atTime now)).keeps_wf hw⟩
  | receive octets => exact ⟨_, rfl, hw⟩
  | resume k => exact ⟨_, rfl, State.resumeCall_keeps_wf hw k⟩

end

/-- Settles O51: taking the event keeps the invariant, and so does every event's effect. -/
theorem stepKeepsWellFormedness : Obligations.StepKeepsWellFormedness := by
  intro s hw
  rw [step_runs_event]
  exact runEvent_keeps_wf (State.takeEvent_keeps_wf hw) s.nextEvent

end Sys2Proof.Machine
end

section
/-! PROOFS. What the host operations leave of the worker's side. -/

namespace Sys2Proof.Machine

/-- R49, R150: no host operation but `Construct` writes the worker's side, and of the receiver only `lastNonSilence` is
written, when the block starts to run. -/
theorem HostEffect.leaves_worker {op : HostOp} {s t : State} (h : HostEffect op s t)
    (hop : ∀ ts rc, op ≠ .construct ts rc) :
    t.seq = s.seq ∧ t.eventCount = s.eventCount ∧ t.env.inputFifo = s.env.inputFifo ∧
    t.env.transmitted = s.env.transmitted ∧ t.env.delivered = s.env.delivered ∧
    (op ≠ .initializeBlock → t.rx = s.rx) ∧ { t.rx with lastNonSilence := s.rx.lastNonSilence } = s.rx := by
  cases h
  case constructed ho _ _ _ => exact absurd ho (hop _ _)
  case initialized ho _ => exact ⟨rfl, rfl, rfl, rfl, rfl, fun hne => absurd ho hne, rfl⟩
  all_goals exact ⟨rfl, rfl, rfl, rfl, rfl, fun _ => rfl, rfl⟩

/-- Settles O49: the three kinds of scheduled events, and the frame of every host operation but `Construct`. -/
theorem hostOperationsLeaveWorkerState : Obligations.HostOperationsLeaveWorkerState :=
  ⟨fun _ _ _ _ h => step_host h, fun _ _ _ h => step_receive h, fun _ _ _ h => step_resume h,
    fun op s hop => (runHostOp_effect op s).leaves_worker hop⟩

end Sys2Proof.Machine
end

section
/-! PROOFS. The frame budget of a possession (R18, C12). -/

namespace Sys2Proof.Machine

section
variable {s t : State}

theorem Examined.keeps_budget {f : Frame} (h : Examined f s t) (hc : 1 ≤ s.cfg.maxInfoFrames) (hb : s.BudgetOk) :
    t.BudgetOk := by
  obtain ⟨hle, hlt⟩ := hb
  cases h
  case token => exact ⟨Nat.zero_le _, fun _ => hc⟩
  case reply | postponed | toIdle | successor => exact ⟨hle, nofun⟩
  all_goals exact ⟨hle, hlt⟩

theorem Handled.keeps_budget (h : Handled s t) (hc : 1 ≤ s.cfg.maxInfoFrames) (hb : s.BudgetOk) : t.BudgetOk := by
  obtain ⟨hle, hlt⟩ := hb
  cases h
  case examined hx => exact (examined_of_exec hx).keeps_budget hc ⟨hle, hlt⟩
  case queueEmpty | replyTimeout => exact ⟨le_rfl, nofun⟩
  case frameSent hs _ hm => exact ⟨hlt hs, fun hu => absurd hu (afterQueuedFrame_ne_useToken hm)⟩
  case useAgain h => exact ⟨hle, fun _ => h⟩
  case keepToken | ownPollEnded | declareSoleMaster => exact ⟨Nat.zero_le _, fun _ => hc⟩
  case waits | invalidDropped | retryToken | pollNext | clamped => exact ⟨hle, hlt⟩
  -- Every other outcome enters a state other than USE_TOKEN.
  all_goals exact ⟨hle, nofun⟩

theorem workerStep_keeps_budget (hc : 1 ≤ s.cfg.maxInfoFrames) (hb : s.BudgetOk) (h : workerStep s = .next t) :
    t.BudgetOk := by
  obtain ⟨u, p, rfl, hu | rfl | ⟨source, rfl⟩⟩ := workerStep_shape h
  · exact hu.keeps_budget hc hb
  · obtain ⟨_, _, _, e⟩ := s.drain_shape
    rw [e]
    exact hb
  · exact ⟨hb.1, nofun⟩

theorem HostEffect.keeps_budget {op : HostOp} (h : HostEffect op s t) (hb : s.BudgetOk)
    (hop : ∀ n, op ≠ .setMaxInfoFrames n) : t.BudgetOk := by
  cases h
  case maxInfoFramesSet ho _ => exact absurd ho (hop _)
  case constructed => exact ⟨Nat.zero_le _, nofun⟩
  all_goals exact hb

theorem State.resumeCall_keeps_budget (hb : s.BudgetOk) (k : Nat) : (s.resumeCall k).BudgetOk := by
  rcases s.resumeCall_cases k with e | ⟨w, -, -, e⟩ <;> rw [e] <;> exact hb

theorem runEvent_keeps_budget {e : Event} (hc : 1 ≤ s.cfg.maxInfoFrames) (hb : s.BudgetOk)
    (he : isSetMaxInfoFrames e = false) (h : runEvent e s = .next t) : t.BudgetOk := by
  cases e with
  | worker now => exact workerStep_keeps_budget (s := s.atTime now) hc hb h
  | host op now =>
    cases h
    exact (runHostOp_effect op (s.atTime now)).keeps_budget hb (by rintro n rfl; cases he)
  | receive octets => cases h; exact hb
  | resume k => cases h; exact State.resumeCall_keeps_budget hb k

end

/-- Settles O53. Of the invariant it needs that `maxInfoFrames` is at least 1, so that a new possession has a budget. -/
theorem stepKeepsFrameBudget : Obligations.StepKeepsFrameBudget := by
  intro s t hw hb he h
  obtain ⟨-, ⟨-, -, hc, -⟩, -⟩ := hw
  rw [step_runs_event] at h
  obtain ⟨schedule, index, e⟩ := s.takeEvent_shape
  rw [e] at h
  exact runEvent_keeps_budget (s := { s with env.schedule := schedule, env.environmentIndex := index }) hc hb he h

end Sys2Proof.Machine
end

section
/-! PROOFS. What never goes back until a new block is constructed (R8, R15, R32). -/

namespace Sys2Proof.Machine

section
variable {s t : State}

/-- The one-way facts between a state and a later one (R8, R15, R32). -/
abbrev State.OneWay (s t : State) : Prop :=
  t.params = s.params ∧ t.cfg.thisStation = s.cfg.thisStation ∧
  (s.seq.receivedToken = true → t.seq.receivedToken = true) ∧
  (s.lifecycle = .terminated → t.lifecycle = .terminated) ∧
  (t.lifecycle = .constructed → s.lifecycle = .constructed)

theorem State.OneWay.refl (s : State) : s.OneWay s := ⟨rfl, rfl, id, id, id⟩

theorem Handled.oneWay (h : Handled s t) : s.OneWay t := by
  obtain ⟨hp, hc, hl⟩ := h.keeps_config
  exact ⟨hp, by rw [hc], h.keeps_receivedToken, hl.trans, hl.symm.trans⟩

theorem workerStep_oneWay (h : workerStep s = .next t) : s.OneWay t := by
  obtain ⟨u, p, rfl, hu | rfl | ⟨source, rfl⟩⟩ := workerStep_shape h
  · exact hu.oneWay
  · obtain ⟨_, _, _, e⟩ := s.drain_shape
    rw [e]
    exact .refl s
  · exact .refl s

theorem HostEffect.oneWay {op : HostOp} (h : HostEffect op s t) (hop : ∀ ts rc, op ≠ .construct ts rc) :
    s.OneWay t := by
  cases h
  case constructed ho _ _ _ => exact absurd ho (hop _ _)
  case initialized hl => exact ⟨rfl, rfl, id, fun ht => absurd (hl.symm.trans ht) nofun, nofun⟩
  case terminated => exact ⟨rfl, rfl, id, fun _ => rfl, nofun⟩
  all_goals exact .refl s

theorem State.resumeCall_oneWay (s : State) (k : Nat) : s.OneWay (s.resumeCall k) := by
  rcases s.resumeCall_cases k with e | ⟨w, -, -, e⟩ <;> rw [e] <;> exact .refl s

theorem runEvent_oneWay {e : Event} (he : isConstruct e = false) (h : runEvent e s = .next t) : s.OneWay t := by
  cases e with
  | worker now => exact workerStep_oneWay (s := s.atTime now) h
  | host op now =>
    cases h
    exact (runHostOp_effect op (s.atTime now)).oneWay (by rintro ts rc rfl; cases he)
  | receive octets => cases h; exact .refl s
  | resume k => cases h; exact s.resumeCall_oneWay k

end

/-- Settles O54. -/
theorem oneWayRegisters : Obligations.OneWayRegisters := by
  intro s t he h
  have ht : s.takeEvent.OneWay t := runEvent_oneWay he h
  obtain ⟨_, _, e⟩ := s.takeEvent_shape
  rw [e] at ht
  exact ht

end Sys2Proof.Machine
end

section
/-! PROOFS. The output streams only grow (R34, R100). -/

namespace Sys2Proof.Machine

/-- A stream gains nothing, or one element with the property `p` at its end (R34). -/
inductive Gains {α : Type} (p : α → Prop) (before : List α) : List α → Prop
  | nothing : Gains p before before
  | one (x : α) (hx : p x) : Gains p before (before ++ [x])

theorem Gains.exists_append {α : Type} {p : α → Prop} {before after : List α} (h : Gains p before after) :
    ∃ gained, after = before ++ gained ∧ gained.length ≤ 1 ∧ ∀ x ∈ gained, p x := by
  cases h with
  | nothing => exact ⟨[], (List.append_nil _).symm, Nat.zero_le _, nofun⟩
  | one x hx => exact ⟨[x], rfl, le_rfl, by simpa using hx⟩

/-- The transmission is stamped `now` and is the encoding of a frame from this station (R100). -/
abbrev State.OwnTransmission (s : State) (now : Int) (x : Transmission) : Prop :=
  x.time = now ∧ ∃ f : Frame, f.source = s.cfg.thisStation ∧ x.octets = encodeFrame s.params.codec f

/-- What the three output streams gain between a state and a later environment (R34). -/
structure State.OutputsGrow (s : State) (e : Environment) : Prop where
  transmitted : Gains (s.OwnTransmission e.now) s.env.transmitted e.transmitted
  delivered : Gains (fun x => x.time = e.now) s.env.delivered e.delivered
  published : Gains (fun x => x.time = e.now) s.env.published e.published

section
variable {s t : State}

/-- The time input may change before the first output. -/
theorem State.OutputsGrow.of_atTime {now : Int} {e : Environment} (h : (s.atTime now).OutputsGrow e) :
    s.OutputsGrow e :=
  ⟨h.transmitted, h.delivered, h.published⟩

theorem Emits.outputsGrow {e : Environment} (h : Emits s e) : s.OutputsGrow e := by
  cases h
  case nothing => exact ⟨.nothing, .nothing, .nothing⟩
  case frame => exact ⟨.one _ ⟨rfl, _, rfl, rfl⟩, .nothing, .nothing⟩
  case delivery => exact ⟨.nothing, .one _ rfl, .nothing⟩

theorem workerStep_outputsGrow (h : workerStep s = .next t) : s.OutputsGrow t.env := by
  obtain ⟨u, p, rfl, hu | rfl | ⟨source, rfl⟩⟩ := workerStep_shape h
  · exact hu.emits.outputsGrow
  · obtain ⟨_, _, _, e⟩ := s.drain_shape
    rw [e]
    exact ⟨.nothing, .nothing, .nothing⟩
  · exact ⟨.nothing, .nothing, .nothing⟩

theorem HostEffect.outputsGrow {op : HostOp} (h : HostEffect op s t) : s.OutputsGrow t.env := by
  cases h
  case initialized => exact ⟨.nothing, .nothing, .one _ rfl⟩
  all_goals exact ⟨.nothing, .nothing, .nothing⟩

theorem State.resumeCall_outputsGrow (s : State) (k : Nat) : s.OutputsGrow (s.resumeCall k).env := by
  rcases s.resumeCall_cases k with e | ⟨w, -, -, e⟩ <;> rw [e] <;> exact ⟨.nothing, .nothing, .nothing⟩

theorem runEvent_outputsGrow {e : Event} (h : runEvent e s = .next t) : s.OutputsGrow t.env := by
  cases e with
  | worker now => exact .of_atTime (workerStep_outputsGrow h)
  | host op now => cases h; exact .of_atTime (runHostOp_effect op (s.atTime now)).outputsGrow
  | receive octets => cases h; exact ⟨.nothing, .nothing, .nothing⟩
  | resume k => cases h; exact s.resumeCall_outputsGrow k

theorem step_outputsGrow (h : step s = .next t) : s.OutputsGrow t.env := by
  have hg : s.takeEvent.OutputsGrow t.env := runEvent_outputsGrow h
  obtain ⟨_, _, e⟩ := s.takeEvent_shape
  rw [e] at hg
  exact ⟨hg.transmitted, hg.delivered, hg.published⟩

end

/-- Settles O56. -/
theorem outputsOnlyGrow : Obligations.OutputsOnlyGrow := by
  intro s t h
  have hg := step_outputsGrow h
  obtain ⟨sent, hsent, hsent1, hown⟩ := hg.transmitted.exists_append
  obtain ⟨delivered, hdel, hdel1, hdelNow⟩ := hg.delivered.exists_append
  obtain ⟨published, hpub, hpub1, hpubNow⟩ := hg.published.exists_append
  exact ⟨sent, delivered, published, hsent, hsent1, hown, hdel, hdel1, hdelNow, hpub, hpub1, hpubNow⟩

end Sys2Proof.Machine
end

section
/-! PROOFS. What a worker micro-step leaves of the host's side (R49, R50, R51), and what a step leaves of the
schedule. -/

namespace Sys2Proof.Machine

/-- What the worker leaves of the host's side between two states: of the environment it writes the input FIFO and two
output streams alone, it takes the queue's oldest frame at most, and it fills no reply slot (R49, R50, R51). -/
structure State.HostSideKept (s t : State) : Prop where
  config : t.params = s.params ∧ t.cfg = s.cfg ∧ t.lifecycle = s.lifecycle
  env : ∃ fifo transmitted delivered,
    t.env = { s.env with inputFifo := fifo, transmitted := transmitted, delivered := delivered }
  queue : t.buf.framesToSend = s.buf.framesToSend ∨ ∃ q, s.buf.framesToSend = q :: t.buf.framesToSend
  reply : t.buf.replyFrame = s.buf.replyFrame ∨ t.buf.replyFrame = none

section
variable {s t : State}

theorem Handled.hostSideKept (h : Handled s t) : s.HostSideKept t where
  config := h.keeps_config
  env := by
    obtain ⟨transmitted, delivered, e⟩ := h.emits.shape
    exact ⟨s.env.inputFifo, transmitted, delivered, e⟩
  queue := h.framesToSend_cases
  reply := h.replyFrame_cases.symm.imp_left And.left

theorem workerStep_hostSideKept (h : workerStep s = .next t) : s.HostSideKept t := by
  obtain ⟨u, p, rfl, hu | rfl | ⟨source, rfl⟩⟩ := workerStep_shape h
  · obtain ⟨hconfig, henv, hqueue, hreply⟩ := hu.hostSideKept
    exact ⟨hconfig, henv, hqueue, hreply⟩
  · obtain ⟨_, _, _, e⟩ := s.drain_shape
    rw [e]
    exact ⟨⟨rfl, rfl, rfl⟩, ⟨_, _, _, rfl⟩, .inl rfl, .inl rfl⟩
  · exact ⟨⟨rfl, rfl, rfl⟩, ⟨_, _, _, rfl⟩, .inl rfl, .inl rfl⟩

theorem HostEffect.keeps_schedule {op : HostOp} (h : HostEffect op s t) : t.env.schedule = s.env.schedule := by
  cases h <;> rfl

/-- No event's effect writes the schedule: only taking the event does (R55; log 6). -/
theorem runEvent_keeps_schedule {e : Event} (h : runEvent e s = .next t) : t.env.schedule = s.env.schedule := by
  cases e with
  | worker now =>
    obtain ⟨_, _, _, henv⟩ := (workerStep_hostSideKept h).env
    rw [henv]
    rfl
  | host op now => cases h; exact (runHostOp_effect op (s.atTime now)).keeps_schedule
  | receive octets => cases h; rfl
  | resume k =>
    cases h
    rcases s.resumeCall_cases k with e | ⟨w, -, -, e⟩
    · rw [e]
    · rw [e]; rfl

theorem State.nextEvent_of_schedule {e : Event} {rest : List Event} (hs : s.env.schedule = e :: rest) :
    s.nextEvent = e := by
  rw [State.nextEvent, hs]

/-- A step takes the schedule's first event, and no other (R55; log 6). -/
theorem step_schedule {e : Event} {rest : List Event} (hs : s.env.schedule = e :: rest) (h : step s = .next t) :
    t.env.schedule = rest := by
  rw [runEvent_keeps_schedule h, State.takeEvent, hs]

end

/-- Settles O55: the micro-step keeps the host's side of the state in which it starts, and that state has the event's
`now` and the rest of the schedule. -/
theorem workerLeavesHostState : Obligations.WorkerLeavesHostState := by
  intro s t now rest hs h
  rw [step_worker hs] at h
  obtain ⟨⟨hparams, hcfg, hlife⟩, ⟨_, _, _, henv⟩, hqueue, hreply⟩ := workerStep_hostSideKept h
  rw [henv]
  exact ⟨hparams, hcfg, hlife, rfl, rfl, rfl, rfl, rfl, hqueue, hreply⟩

end Sys2Proof.Machine
end

section
/-! PROOFS. The outbound queue is first in, first out, over any run (R50, R54, R114). -/

namespace Sys2Proof.Machine

/-- What USE_TOKEN transmits for a frame of the queue (R114). -/
def State.queuedOctets (s : State) (q : Frame) : List Octet :=
  encodeFrame s.params.codec ⟨q.type, q.destination, s.cfg.thisStation, q.data⟩

/-- What one step does with the queue: nothing, a push at the tail, or a pop at the head whose frame leaves on the
transmit stream in that step (R50, R114, R154). -/
def State.QueueStep (s t : State) : Prop :=
  t.buf.framesToSend = s.buf.framesToSend ∨
  (∃ f, t.buf.framesToSend = s.buf.framesToSend ++ [f]) ∨
  ∃ q x, s.buf.framesToSend = q :: t.buf.framesToSend ∧
    t.env.transmitted = s.env.transmitted ++ [x] ∧ x.octets = s.queuedOctets q

/-- What a run does with the queue: the frames pushed join the queue at its tail, those popped left at its head, and the
popped frames' octets were sent in that order, among others (R54). -/
def State.QueueFlow (s t : State) : Prop :=
  ∃ pushed popped sent,
    s.buf.framesToSend ++ pushed = popped ++ t.buf.framesToSend ∧
    t.env.transmitted = s.env.transmitted ++ sent ∧
    (popped.map s.queuedOctets).Sublist (sent.map fun x => x.octets)

section
variable {s t u : State}

/-! ## One step -/

theorem Handled.queueStep (h : Handled s t) : s.QueueStep t := by
  cases h
  case examined hx => exact .inl (by rw [(examined_of_exec hx).keeps_buf])
  case frameSent q _ _ _ hq _ => exact .inr (.inr ⟨q, _, hq, rfl, rfl⟩)
  all_goals exact .inl rfl

theorem workerStep_queueStep (h : workerStep s = .next t) : s.QueueStep t := by
  obtain ⟨u, p, rfl, hu | rfl | ⟨source, rfl⟩⟩ := workerStep_shape h
  · exact hu.queueStep
  · obtain ⟨_, _, _, e⟩ := s.drain_shape
    rw [e]
    exact .inl rfl
  · exact .inl rfl

theorem HostEffect.queueStep {op : HostOp} (h : HostEffect op s t) (hop : ∀ ts rc, op ≠ .construct ts rc) :
    s.QueueStep t := by
  cases h
  case pushed => exact .inr (.inl ⟨_, rfl⟩)
  case constructed ho _ _ _ => exact absurd ho (hop _ _)
  all_goals exact .inl rfl

theorem State.resumeCall_queueStep (s : State) (k : Nat) : s.QueueStep (s.resumeCall k) := by
  rcases s.resumeCall_cases k with e | ⟨w, -, -, e⟩ <;> rw [e]
  · exact .inl rfl
  · exact .inr (.inl ⟨w.frame, rfl⟩)

theorem runEvent_queueStep {e : Event} (he : isConstruct e = false) (h : runEvent e s = .next t) : s.QueueStep t := by
  cases e with
  | worker now => exact workerStep_queueStep (s := s.atTime now) h
  | host op now =>
    cases h
    exact (runHostOp_effect op (s.atTime now)).queueStep (by rintro ts rc rfl; cases he)
  | receive octets => cases h; exact .inl rfl
  | resume k => cases h; exact s.resumeCall_queueStep k

theorem step_queueStep (he : isConstruct s.nextEvent = false) (h : step s = .next t) : s.QueueStep t := by
  have hstep : s.takeEvent.QueueStep t := runEvent_queueStep he h
  obtain ⟨_, _, e⟩ := s.takeEvent_shape
  rw [e] at hstep
  exact hstep

/-! ## Runs -/

theorem State.QueueFlow.refl (s : State) : s.QueueFlow s :=
  ⟨[], [], [], List.append_nil _, (List.append_nil _).symm, List.nil_sublist _⟩

/-- Two runs in a row, when the first leaves what encodes a queued frame as it was. -/
theorem State.QueueFlow.trans (h : s.QueueFlow t) (ho : t.queuedOctets = s.queuedOctets) (h' : t.QueueFlow u) :
    s.QueueFlow u := by
  obtain ⟨pushed, popped, sent, hq, ht, hsub⟩ := h
  obtain ⟨pushed', popped', sent', hq', ht', hsub'⟩ := h'
  rw [ho] at hsub'
  refine ⟨pushed ++ pushed', popped ++ popped', sent ++ sent', ?_, ?_, ?_⟩
  · calc s.buf.framesToSend ++ (pushed ++ pushed')
        = popped ++ (t.buf.framesToSend ++ pushed') := by rw [← List.append_assoc, hq, List.append_assoc]
      _ = popped ++ popped' ++ u.buf.framesToSend := by rw [hq', List.append_assoc]
  · rw [ht', ht, List.append_assoc]
  · rw [List.map_append, List.map_append]
    exact hsub.append hsub'

/-- The transmit stream's growth in a step that pops nothing is other traffic (R34, R100). -/
theorem step_queueFlow (he : isConstruct s.nextEvent = false) (h : step s = .next t) : s.QueueFlow t := by
  obtain ⟨sent, hsent, -⟩ := (step_outputsGrow h).transmitted.exists_append
  rcases step_queueStep he h with hq | ⟨f, hq⟩ | ⟨q, x, hq, ht, hx⟩
  · exact ⟨[], [], sent, by rw [hq, List.append_nil, List.nil_append], hsent, List.nil_sublist _⟩
  · exact ⟨[f], [], sent, hq.symm, hsent, List.nil_sublist _⟩
  · exact ⟨[], [q], [x], by rw [hq, List.append_nil, List.singleton_append], ht, by simp [hx]⟩

theorem State.OneWay.queuedOctets_eq (h : s.OneWay t) : t.queuedOctets = s.queuedOctets := by
  obtain ⟨hparams, hstation, -⟩ := h
  funext q
  rw [State.queuedOctets, hparams, hstation, State.queuedOctets]

theorem run_queueFlow (n : Nat) (hn : n ≤ s.env.schedule.length)
    (hc : ∀ e ∈ s.env.schedule.take n, isConstruct e = false) (h : core.run n s = .next t) : s.QueueFlow t := by
  induction n generalizing s with
  | zero =>
    cases (run_zero s).symm.trans h
    exact .refl _
  | succ n ih =>
    obtain ⟨u, hu, hrun⟩ := run_succ_next h
    cases hs : s.env.schedule with
    | nil => rw [hs] at hn; cases hn
    | cons e rest =>
      rw [hs] at hn hc
      obtain ⟨hfirst, hrest⟩ := List.forall_mem_cons.mp hc
      have he : isConstruct s.nextEvent = false := by rw [State.nextEvent_of_schedule hs]; exact hfirst
      obtain rfl : u.env.schedule = rest := step_schedule hs hu
      have hflow : u.QueueFlow t := ih (Nat.le_of_succ_le_succ hn) hrest hrun
      have hway : s.OneWay u := oneWayRegisters s u he hu
      exact (step_queueFlow he hu).trans hway.queuedOctets_eq hflow

end

/-- Settles O57, by induction on the length of the run. -/
theorem queuedFramesLeaveInPushOrder : Obligations.QueuedFramesLeaveInPushOrder :=
  fun n _ _ hn hc h => run_queueFlow n hn hc h

end Sys2Proof.Machine
end

section
/-! PROOFS. Every type octet matches exactly one row of the opcode table (R57, R61). -/

namespace Sys2Proof

/-- The mnemonics of the opcode table's rows whose mask and pattern match a type octet (R57). -/
def matchingMnemonics (t : Octet) : List String :=
  (opcodeTable.filter fun row => row.matchesType t).map fun row => row.mnemonic

/-- R57's table over its 256 type octets: one row matches, that of the instruction the octet is classified as. -/
theorem matchingMnemonics_type : ∀ t : Octet, matchingMnemonics t = [(Instr.ofFrame ⟨t, 0, 0, []⟩).mnemonic] := by
  decide

/-- Settles O3: the matching rows and the instruction's row depend on the type octet alone. -/
theorem everyTypeNamesOneRow : Obligations.EveryTypeNamesOneRow := by
  intro f
  have hrow : matchingMnemonics f.type = [(Instr.ofFrame f).mnemonic] := by
    rw [Instr.ofFrame_mnemonic]
    exact matchingMnemonics_type f.type
  exact ⟨hrow, Instr.toFrame_ofFrame f⟩

end Sys2Proof
end

section
/-! PROOFS. What the decoder accepts, part by part: the header and its CRC octet (R70), then the data and its CRC (R72);
together, the octets it accepts are the encodings of the well-formed instructions (R58, R59, R62). -/

namespace Sys2Proof

/-- The octets of a frame after the header CRC octet: none without data, else the data and its CRC, low octet first
(R58, R62). -/
def bodyOctets (k : Config.Codec) (data : List Octet) : List Octet :=
  if data = [] then [] else data ++ [lowOctet (dataCrc k data), highOctet (dataCrc k data)]

/-- The decoder after an accepted header with the length field `len` (R70, R72). -/
def decodeBody (k : Config.Codec) (type destination source : Octet) (len : Word16) (octets : List Octet) :
    Except DecodeError (Instr × List Octet) :=
  if len = 0 then .ok (Instr.ofFrame ⟨type, destination, source, []⟩, octets)
  else decodeData k type destination source len.toNat octets

/-! ## The length field (R59) -/

/-- A data length that fits 16 bits is read back from the two length octets. -/
theorem frameLength_length {n : Nat} (h : n < 2 ^ 16) :
    (frameLength (highOctet (BitVec.ofNat 16 n)) (lowOctet (BitVec.ofNat 16 n))).toNat = n := by
  rw [frameLength_octets, BitVec.toNat_ofNat, Nat.mod_eq_of_lt h]

/-- The header octets of a frame whose data has the length that two length octets give. -/
theorem headerOctets_of_length {t d r h l : Octet} {data : List Octet} (hlen : data.length = (frameLength h l).toNat) :
    headerOctets ⟨t, d, r, data⟩ = [t, d, r, h, l] := by
  simp only [headerOctets, hlen, BitVec.ofNat_toNat, BitVec.setWidth_eq, highOctet_frameLength, lowOctet_frameLength]

/-! ## The parts of the decoder -/

section
variable {k : Config.Codec} {t d r : Octet} {i : Instr} {octets rest : List Octet}

/-- The data part is accepted exactly when it is data of the length asked for with its CRC. -/
theorem decodeData_eq_ok_iff {len : Nat} :
    decodeData k t d r len octets = .ok (i, rest) ↔
      ∃ data, data.length = len ∧ i = Instr.ofFrame ⟨t, d, r, data⟩ ∧
        octets = data ++ [lowOctet (dataCrc k data), highOctet (dataCrc k data)] ++ rest := by
  constructor
  · intro h
    unfold decodeData at h
    split at h
    next lo hi after hdrop =>
      have hlen : (octets.take len).length = len := by
        have hcount := congrArg List.length hdrop
        simp only [List.length_drop, List.length_cons] at hcount
        exact List.length_take_of_le (by omega)
      have hsplit : octets = octets.take len ++ lo :: hi :: after := by rw [← hdrop, List.take_append_drop]
      dsimp only at h
      split_ifs at h with hcrc
      obtain ⟨rfl, rfl⟩ := hcrc
      cases h
      exact ⟨octets.take len, hlen, rfl, by simpa using hsplit⟩
    next => cases h
  · rintro ⟨data, rfl, rfl, rfl⟩
    simp [decodeData]

/-- The part after the header is accepted exactly when it is the body of data of the length asked for. -/
theorem decodeBody_eq_ok_iff {len : Word16} :
    decodeBody k t d r len octets = .ok (i, rest) ↔
      ∃ data, data.length = len.toNat ∧ i = Instr.ofFrame ⟨t, d, r, data⟩ ∧ octets = bodyOctets k data ++ rest := by
  unfold decodeBody
  by_cases hz : len = 0
  · subst hz
    rw [if_pos rfl]
    constructor
    · rintro ⟨⟩
      exact ⟨[], rfl, rfl, rfl⟩
    · rintro ⟨data, hlen, rfl, rfl⟩
      obtain rfl := List.eq_nil_of_length_eq_zero hlen
      rfl
  · have hne : ∀ data : List Octet, data.length = len.toNat → data ≠ [] := by
      rintro data hlen rfl
      exact hz (BitVec.eq_of_toNat_eq hlen.symm)
    rw [if_neg hz, decodeData_eq_ok_iff]
    refine exists_congr fun data => and_congr_right fun hlen => ?_
    rw [bodyOctets, if_neg (hne data hlen)]

/-- Octets are accepted exactly when they are the preamble, a header with its CRC octet and a length of at most
`MAX_DATA`, and an accepted rest (R58, R70, R75). -/
theorem decode_eq_ok_iff_header {out : Instr × List Octet} :
    decode k octets = .ok out ↔
      ∃ t d r h l body, octets = 0x55 :: 0xFF :: t :: d :: r :: h :: l :: headerCrc k [t, d, r, h, l] :: body ∧
        (frameLength h l).toNat ≤ k.maxData ∧ decodeBody k t d r (frameLength h l) body = .ok out := by
  constructor
  · intro hok
    unfold decode at hok
    split at hok
    next p1 p2 t d r h l c body =>
      split_ifs at hok with hpre hcrc hmax hz
      all_goals
        obtain ⟨rfl, rfl⟩ : p1 = 0x55 ∧ p2 = 0xFF := by simpa using hpre
        obtain rfl := not_not.mp hcrc
        refine ⟨t, d, r, h, l, body, rfl, not_lt.mp hmax, ?_⟩
      · exact (if_pos hz).trans hok
      · exact (if_neg hz).trans hok
    next => cases hok
  · rintro ⟨t, d, r, h, l, body, rfl, hmax, hbody⟩
    rw [← hbody]
    simp [decode, decodeBody, not_lt.mpr hmax]

end

/-! ## The decoder and the encoder -/

theorem encodeFrame_eq_header_body (k : Config.Codec) (f : Frame) :
    encodeFrame k f = [0x55, 0xFF] ++ headerOctets f ++ [headerCrc k (headerOctets f)] ++ bodyOctets k f.data := rfl

/-- The decoder accepts exactly the encodings of the instructions whose data is at most `MAX_DATA` octets and fits the
length field, and leaves what follows them. -/
theorem decode_eq_ok_iff {k : Config.Codec} {octets rest : List Octet} {i : Instr} :
    decode k octets = .ok (i, rest) ↔
      i.WellFormed k ∧ i.data.length < 2 ^ 16 ∧ octets = encode k i ++ rest := by
  rw [decode_eq_ok_iff_header]
  constructor
  · rintro ⟨t, d, r, h, l, body, rfl, hmax, hbody⟩
    obtain ⟨data, hlen, rfl, rfl⟩ := decodeBody_eq_ok_iff.mp hbody
    have hdata : (Instr.ofFrame ⟨t, d, r, data⟩).data = data := by rw [← Instr.toFrame_data, Instr.ofFrame_data]
    rw [Instr.WellFormed, hdata, hlen]
    refine ⟨hmax, (frameLength h l).isLt, ?_⟩
    rw [encode, Instr.toFrame_ofFrame, encodeFrame_eq_header_body, headerOctets_of_length hlen]
    simp
  · rintro ⟨hwf, hlt, rfl⟩
    rw [← Instr.toFrame_data] at hlt
    have hlen := frameLength_length hlt
    exact ⟨_, _, _, _, _, bodyOctets k i.toFrame.data ++ rest, rfl, hlen.trans_le (by rwa [Instr.toFrame_data]),
      decodeBody_eq_ok_iff.mpr ⟨i.toFrame.data, hlen.symm, (Instr.ofFrame_toFrame i).symm, rfl⟩⟩

/-- Settles O1: a well-formed instruction's data fits the length field because `MAX_DATA` does. -/
theorem decodeReadsBackEncode : Obligations.DecodeReadsBackEncode := by
  intro k i rest hk hi
  have hfits : i.data.length < 2 ^ 16 := Nat.lt_succ_of_le (hi.trans hk)
  exact decode_eq_ok_iff.mpr ⟨hi, hfits, rfl⟩

/-- Settles O2, by reading the parts of the decoder back into an encoding. -/
theorem decodeAcceptsOnlyEncodings : Obligations.DecodeAcceptsOnlyEncodings := by
  intro k octets rest i h
  obtain ⟨hwf, -, hoctets⟩ := decode_eq_ok_iff.mp h
  exact ⟨hwf, hoctets⟩

end Sys2Proof
end

section
/-! PROOFS. The two CRC registers as shift registers (R63, R64): one bit step, for every width and polynomial, is linear
over exclusive OR and, with the polynomial's top bit set, loses nothing. So each default step function equals its bitwise
form, and one final register value tells the right CRC octets (R70, R72). -/

namespace Sys2Proof.Machine

/-! ## One bit of a CRC, least-significant bit first -/

section
variable {w : Nat} (p : BitVec w)

/-- One bit step of a CRC register with the polynomial `p`: what R63's and R64's bitwise forms repeat eight times. -/
def crcBit (c : BitVec w) : BitVec w := if c.getLsbD 0 then (c >>> 1) ^^^ p else c >>> 1

theorem hdrCrcBitwise_eq_iterate (d c : Octet) : hdrCrcBitwise d c = (crcBit 0x81)^[8] (c ^^^ d) := rfl

theorem dataCrcBitwise_eq_iterate (d : Octet) (c : Word16) :
    dataCrcBitwise d c = (crcBit 0x8408)^[8] (c ^^^ d.setWidth 16) := rfl

/-- Two ones shifted out bring in the polynomial twice, which cancels. -/
theorem crcBit_xor (a b : BitVec w) : crcBit p (a ^^^ b) = crcBit p a ^^^ crcBit p b := by
  ext i hi
  cases ha : a.getLsbD 0 <;> cases hb : b.getLsbD 0 <;> simp [crcBit, ha, hb, Bool.xor_comm, Bool.xor_left_comm]

theorem iterate_crcBit_xor (n : Nat) (a b : BitVec w) :
    (crcBit p)^[n] (a ^^^ b) = (crcBit p)^[n] a ^^^ (crcBit p)^[n] b := by
  induction n generalizing a b with
  | zero => rfl
  | succ n ih => simp only [Function.iterate_succ_apply, crcBit_xor, ih]

/-- Zeros at the low end are shifted out without bringing in the polynomial. -/
theorem iterate_crcBit_of_low_zeros {n : Nat} {c : BitVec w} (h : ∀ i < n, c.getLsbD i = false) :
    (crcBit p)^[n] c = c >>> n := by
  induction n generalizing c with
  | zero => simp
  | succ n ih =>
    have hfirst : crcBit p c = c >>> 1 := by simp [crcBit, h 0]
    have hrest : ∀ i < n, (c >>> 1).getLsbD i = false := fun i hi => by simp [h (1 + i) (by omega)]
    rw [Function.iterate_succ_apply, hfirst, ih hrest, ← BitVec.shiftRight_add, Nat.add_comm]

variable {p}

/-- The polynomial's top bit shows whether a one was shifted out. -/
theorem msb_crcBit (hp : p.msb = true) (c : BitVec w) : (crcBit p c).msb = c.getLsbD 0 := by
  cases hc : c.getLsbD 0 <;> simp [crcBit, hc, hp]

theorem crcBit_injective (hp : p.msb = true) : Function.Injective (crcBit p) := by
  intro a b hab
  have hlow : a.getLsbD 0 = b.getLsbD 0 := by rw [← msb_crcBit hp, hab, msb_crcBit hp]
  have hshift : a >>> 1 = b >>> 1 := by
    simp only [crcBit, hlow] at hab
    split_ifs at hab
    · simpa using hab
    · exact hab
  apply BitVec.eq_of_getLsbD_eq
  rintro (_ | i) -
  · exact hlow
  · simpa [Nat.add_comm] using congrArg (·.getLsbD i) hshift

end

/-! ## A word's two octets through the bit steps -/

/-- The two octets of a word do not overlap. -/
theorem frameLength_eq_xor (h l : Octet) : frameLength h l = frameLength h 0 ^^^ l.setWidth 16 := by
  rw [word_ext, BitVec.xor_comm, highOctet_widen_xor, lowOctet_widen_xor]
  simp only [highOctet_frameLength, lowOctet_frameLength, BitVec.ofNat_eq_ofNat, BitVec.xor_zero, and_self]

/-- Eight bit steps bring a high octet down, whatever the polynomial. -/
theorem iterate_crcBit_highOctet (p : Word16) (h : Octet) : (crcBit p)^[8] (frameLength h 0) = h.setWidth 16 := by
  have hlow : ∀ i < 8, (frameLength h 0).getLsbD i = false := fun i hi => by simp [frameLength, hi]
  rw [iterate_crcBit_of_low_zeros p hlow, shiftRight_eight, highOctet_frameLength]

/-- A word taken in octet by octet, the low octet first, is the word taken in at once. -/
theorem iterate_crcBit_two_octets (p c : Word16) (lo hi : Octet) :
    (crcBit p)^[8] ((crcBit p)^[8] (c ^^^ lo.setWidth 16) ^^^ hi.setWidth 16) =
      (crcBit p)^[16] (c ^^^ frameLength hi lo) := by
  calc (crcBit p)^[8] ((crcBit p)^[8] (c ^^^ lo.setWidth 16) ^^^ hi.setWidth 16)
      = (crcBit p)^[8] ((crcBit p)^[8] (c ^^^ lo.setWidth 16 ^^^ frameLength hi 0)) := by
        rw [iterate_crcBit_xor p 8 _ (frameLength hi 0), iterate_crcBit_highOctet]
    _ = (crcBit p)^[16] (c ^^^ frameLength hi lo) := by
        rw [← Function.iterate_add_apply, BitVec.xor_assoc, frameLength_eq_xor hi lo, BitVec.xor_comm (frameLength hi 0)]

/-! ## The default step functions (R63, R64) -/

theorem defaultHdrCrcStep_zero : ∀ x : Octet, defaultHdrCrcStep x 0 = (crcBit 0x81)^[8] x := by decide

theorem defaultDataCrcStep_zero : ∀ x : Octet, defaultDataCrcStep x 0 = (crcBit 0x8408)^[8] (x.setWidth 16) := by
  decide

theorem hdrCrcStep_default (d c : Octet) : hdrCrcStep Config.defaultCodec d c = (crcBit 0x81)^[8] (c ^^^ d) := by
  calc hdrCrcStep Config.defaultCodec d c
      = defaultHdrCrcStep d c := rfl
    _ = defaultHdrCrcStep (c ^^^ d) 0 := defaultHdrCrcStep_xor d c
    _ = (crcBit 0x81)^[8] (c ^^^ d) := defaultHdrCrcStep_zero _

/-- The register's high octet is shifted down; its low octet meets the octet taken in. -/
theorem dataCrcStep_default (d : Octet) (c : Word16) :
    dataCrcStep Config.defaultCodec d c = (crcBit 0x8408)^[8] (c ^^^ d.setWidth 16) := by
  have hword : c ^^^ d.setWidth 16 = frameLength (highOctet c) 0 ^^^ (lowOctet c ^^^ d).setWidth 16 := by
    rw [← frameLength_eq_xor, ← frameLength_octets (c ^^^ d.setWidth 16), BitVec.xor_comm c, highOctet_widen_xor,
      lowOctet_widen_xor, BitVec.xor_comm d]
  calc dataCrcStep Config.defaultCodec d c
      = (c >>> 8) ^^^ defaultDataCrcStep (lowOctet c ^^^ d) 0 := defaultDataCrcStep_split d c
    _ = (crcBit 0x8408)^[8] (c ^^^ d.setWidth 16) := by
      rw [hword, iterate_crcBit_xor, iterate_crcBit_highOctet, shiftRight_eight, defaultDataCrcStep_zero]

/-- Settles O4: both step functions are eight bit steps. -/
theorem crcStepsEqualBitwiseForms : Obligations.CrcStepsEqualBitwiseForms :=
  ⟨hdrCrcStep_default, dataCrcStep_default⟩

/-! ## The residues (R70, R72) -/

theorem hdrCrcRegister_append (header : List Octet) (crc : Octet) :
    hdrCrcRegister Config.defaultCodec (header ++ [crc]) =
      (crcBit 0x81)^[8] (hdrCrcRegister Config.defaultCodec header ^^^ crc) := by
  rw [hdrCrcRegister, List.foldl_concat, hdrCrcStep_default, hdrCrcRegister]

theorem dataCrcRegister_append (data : List Octet) (lo hi : Octet) :
    dataCrcRegister Config.defaultCodec (data ++ [lo, hi]) =
      (crcBit 0x8408)^[16] (dataCrcRegister Config.defaultCodec data ^^^ frameLength hi lo) := by
  rw [dataCrcRegister, List.foldl_append, ← iterate_crcBit_two_octets]
  simp only [List.foldl_cons, List.foldl_nil, dataCrcStep_default, dataCrcRegister]

/-- The CRC's value is the register's complement; only it cancels the register to all ones. -/
theorem xor_eq_allOnes_iff {w : Nat} (c x : BitVec w) : c ^^^ x = BitVec.allOnes w ↔ x = ~~~c := by
  rw [← BitVec.xor_allOnes (x := c), ← BitVec.xor_right_inj c, ← BitVec.xor_assoc, BitVec.xor_self, BitVec.zero_xor]

/-- The right CRC leaves all ones before its bit steps, and the bit steps lose nothing; so the right CRC, and no other,
leaves what they make of all ones. -/
theorem iterate_crcBit_eq_residue_iff {w n : Nat} {p residue : BitVec w} (hp : p.msb = true)
    (hres : (crcBit p)^[n] (BitVec.allOnes w) = residue) (c x : BitVec w) :
    (crcBit p)^[n] (c ^^^ x) = residue ↔ x = ~~~c := by
  rw [← hres, ((crcBit_injective hp).iterate n).eq_iff, xor_eq_allOnes_iff]

theorem hdrCrc_residue : (crcBit 0x81)^[8] (BitVec.allOnes 8) = (0x55 : Octet) := by decide

theorem dataCrc_residue : (crcBit 0x8408)^[16] (BitVec.allOnes 16) = (0xF0B8 : Word16) := by
  have hlow : (crcBit 0x8408)^[8] (BitVec.allOnes 16) = (0x0F87 : Word16) := by decide
  have hhigh : (crcBit 0x8408)^[8] (0x0F87 : Word16) = 0xF0B8 := by decide
  rw [Function.iterate_add_apply _ 8 8, hlow, hhigh]

/-- Settles O5: each residue is what the bit steps of the CRC make of all ones. -/
theorem crcResiduesCharacteriseGoodFrames : Obligations.CrcResiduesCharacteriseGoodFrames := by
  constructor
  · intro header crc
    rw [hdrCrcRegister_append, iterate_crcBit_eq_residue_iff (by decide) hdrCrc_residue, headerCrc_default]
  · intro data lo hi
    rw [dataCrcRegister_append, iterate_crcBit_eq_residue_iff (by decide) dataCrc_residue, ← dataCrc_default, word_ext,
      highOctet_frameLength, lowOctet_frameLength, and_comm]

end Sys2Proof.Machine
end

section
/-! PROOFS. Words written out from the spec's vectors (V-CRC-2, V-CRC-2b-3, V-ENC-4). -/

namespace Sys2Proof

/-- Settles O6, by running the decoder on each word. -/
theorem writtenWordsDecode : Obligations.WrittenWordsDecode := ⟨rfl, rfl, rfl⟩

end Sys2Proof
end

section
/-! PROOFS. The ring of addresses `0..maxMaster` (R68). -/

namespace Sys2Proof.Machine

/-- A remainder by at most 256 fits an octet. -/
theorem adjacentAddress_toNat (maxMaster x : Octet) :
    (adjacentAddress maxMaster x).toNat = (x.toNat + 1) % (maxMaster.toNat + 1) := by
  have hfits : (x.toNat + 1) % (maxMaster.toNat + 1) < 2 ^ 8 :=
    (Nat.mod_lt _ (Nat.succ_pos _)).trans_le maxMaster.isLt
  rw [adjacentAddress, BitVec.toNat_ofNat, Nat.mod_eq_of_lt hfits]

theorem iterate_adjacentAddress_toNat {maxMaster x : Octet} (hx : x.toNat ≤ maxMaster.toNat) (k : Nat) :
    ((adjacentAddress maxMaster)^[k] x).toNat = (x.toNat + k) % (maxMaster.toNat + 1) := by
  induction k with
  | zero => exact (Nat.mod_eq_of_lt (Nat.lt_succ_of_le hx)).symm
  | succ k ih => rw [Function.iterate_succ_apply', adjacentAddress_toNat, ih, Nat.mod_add_mod, Nat.add_assoc]

/-- Settles O58, by induction on the number of uses. -/
theorem adjacentWalksTheRing : Obligations.AdjacentWalksTheRing :=
  fun s x => ⟨adjacentAddress_toNat s.cfg.maxMaster x, fun k hx => iterate_adjacentAddress_toNat hx k⟩

end Sys2Proof.Machine
end

section
/-! PROOFS. What the receiver does with the octets of a frame, piece by piece: stray octets and the preamble (R84, R85), a
header (R86, R87, R89, R90), data with its CRC (R88, R92), a whole encoding. -/

namespace Sys2Proof

theorem Instr.toFrame_wellFormed {i : Instr} {k : Config.Codec} (h : i.WellFormed k) : i.toFrame.WellFormed k := by
  rwa [Frame.WellFormed, Instr.toFrame_data]

/-- The data of a frame the wire format can carry fits the length field (R59). -/
theorem Frame.data_length_lt {f : Frame} {k : Config.Codec} (hk : k.WellFormed) (hf : f.WellFormed k) :
    f.data.length < 2 ^ 16 :=
  Nat.lt_succ_of_le (hf.trans hk)

end Sys2Proof

namespace Sys2Proof.Machine

/-- The state after `n` octets that leave the parser at `p` and collect nothing (R82). -/
def State.counted (s : State) (n : Nat) (p : RxState) : State :=
  { s with eventCount := s.eventCount + n, rx := { s.rx with lastNonSilence := s.env.now, rxState := p } }

/-- The state after a header and its CRC octet were read and before they are judged (R87). -/
def State.collectedHeader (s : State) (header : List Octet) (crc : Octet) : State :=
  { s.counted 8 .header with rx.rxHeader := header ++ [crc] }

/-- The state after the header of `f` was read and found good: its data octets are awaited (R90). -/
def State.awaitingData (s : State) (f : Frame) : State :=
  { s.collectedHeader (headerOctets f) (headerCrc s.params.codec (headerOctets f)) with
    rx.rxLen := BitVec.ofNat 16 f.data.length, rx.rxData := [], rx.rxState := .data }

/-- The state after the octets `x` were read behind the good header of `f` and before they are judged (R88). -/
def State.collectedData (s : State) (f : Frame) (x : List Octet) : State :=
  { s.awaitingData f with eventCount := s.eventCount + (8 + x.length), rx.rxData := x }

/-- The state after `n` octets were read, the last of which shows that they are no frame, for the cause `c` (R89, R90,
R92). -/
def State.rejected (s : State) (n : Nat) (c : InvalidCause) : State :=
  { s with eventCount := s.eventCount + n, rx := { s.rxAfter with receivedInvalidFrame := some c } }

/-- The state after `n` octets were read, the last of which completes the frame `f` (R91). -/
def State.received (s : State) (n : Nat) (f : Frame) : State :=
  { s with eventCount := s.eventCount + n, rx := { s.rxAfter with frame := some f, receivedValidFrame := true } }

/-- The parser has collected no part of a frame beyond a 0x55 (R84, R85). -/
abbrev State.Scanning (s : State) : Prop := s.rx.rxState ∈ [RxState.idle, .preamble1]

section
variable {s t : State} {b crc lo hi : Octet} {f : Frame} {header rest : List Octet}

/-- Where the parser already is at `p`, only the count and the silence timer change. -/
theorem State.counted_of_rxState {n : Nat} {p : RxState} (hs : s.rx.rxState = p) :
    s.counted n p = { s with eventCount := s.eventCount + n, rx := { s.rx with lastNonSilence := s.env.now } } := by
  subst hs; rfl

theorem State.counted_counted (m n : Nat) (p q : RxState) : (s.counted m p).counted n q = s.counted (m + n) q := by
  simp [State.counted, Nat.add_assoc]

/-! ## One octet -/

theorem State.readOctets_of_goesOn (h : s.rxOctet b = (t, false)) : s.readOctets (b :: rest) = t.readOctets rest := by
  rw [State.readOctets_cons (by rw [h]), h]

theorem State.readOctets_of_completes (h : s.rxOctet b = (t, true)) :
    s.readOctets (b :: rest) = { t with env.inputFifo := rest } := by
  rw [State.readOctets_completed (by rw [h]), h]

/-- Any octet but 0x55 leaves the idle parser idle (R84). -/
theorem State.rxOctet_idle_stray (hs : s.rx.rxState = .idle) (hb : b ≠ 0x55) :
    s.rxOctet b = (s.counted 1 .idle, false) := by
  rw [State.counted_of_rxState hs]
  simp only [State.rxOctet, State.parserStep, hs, if_neg hb]

/-- A 0x55 may be a preamble's first octet, whether or not one stands before it (R84, R85). -/
theorem State.rxOctet_preamble (hs : s.Scanning) : s.rxOctet 0x55 = (s.counted 1 .preamble1, false) := by
  obtain hs | hs : s.rx.rxState = .idle ∨ s.rx.rxState = .preamble1 := by simpa using hs
  · simp [State.rxOctet, State.parserStep, hs, State.counted]
  · simp [State.rxOctet, State.parserStep, hs, State.counted_of_rxState hs]

/-- After a 0x55, an octet that neither completes a preamble nor starts one returns the parser to idle (R85). -/
theorem State.rxOctet_preamble1_stray (hs : s.rx.rxState = .preamble1) (h55 : b ≠ 0x55) (hFF : b ≠ 0xFF) :
    s.rxOctet b = (s.counted 1 .idle, false) := by
  simp only [State.rxOctet, State.parserStep, hs, if_neg h55, if_neg hFF, State.counted]

/-! ## Stray octets and the preamble -/

theorem State.readOctets_stray (stray rest : List Octet) :
    ∀ s : State, s.rx.rxState = .idle → (∀ b ∈ stray, b ≠ 0x55) →
      s.readOctets (stray ++ rest) =
        State.readOctets
          { s with
            eventCount := s.eventCount + stray.length
            rx := { s.rx with lastNonSilence := if stray = [] then s.rx.lastNonSilence else s.env.now } } rest := by
  induction stray with
  | nil => intro s _ _; rfl
  | cons b stray ih =>
    intro s hs hb
    obtain ⟨hb, hstray⟩ := List.forall_mem_cons.mp hb
    rw [List.cons_append, State.readOctets_of_goesOn (State.rxOctet_idle_stray hs hb)]
    refine (ih (s.counted 1 .idle) rfl hstray).trans ?_
    rw [State.counted_of_rxState hs]
    simp [Nat.add_assoc, Nat.add_comm 1]

/-- Any number of 0x55 leave the parser waiting for 0xFF (R84, R85). -/
theorem State.readOctets_replicate_preamble (n : Nat) :
    ∀ s : State, s.Scanning →
      s.readOctets (List.replicate (n + 1) 0x55 ++ rest) = (s.counted (n + 1) .preamble1).readOctets rest := by
  induction n with
  | zero => intro s hs; exact State.readOctets_of_goesOn (State.rxOctet_preamble hs)
  | succ n ih =>
    intro s hs
    rw [List.replicate_succ, List.cons_append, State.readOctets_of_goesOn (State.rxOctet_preamble hs),
      ih _ (by simp [State.counted]), State.counted_counted, Nat.add_comm 1]

/-- Any number of 0x55 before a preamble are counted, and the preamble is then read as from the idle parser (R84, R85). -/
theorem State.readOctets_preambles (n : Nat) (hs : s.Scanning) :
    s.readOctets (List.replicate n 0x55 ++ 0x55 :: rest) =
      State.readOctets { s with eventCount := s.eventCount + n, rx.rxState := .idle } (0x55 :: rest) := by
  rw [← List.singleton_append, ← List.append_assoc, ← List.replicate_succ', State.readOctets_replicate_preamble n s hs]
  exact (State.readOctets_of_goesOn (State.rxOctet_preamble
    (s := { s with eventCount := s.eventCount + n, rx.rxState := .idle }) List.mem_cons_self)).symm

/-! ## A header -/

/-- The octet after the five header octets has the header judged (R87). -/
theorem State.readOctets_headerOnWire (hs : s.rx.rxState = .idle) (h5 : header.length = 5) :
    ∃ u : State, u.rxOctet crc = (s.collectedHeader header crc).headerDone ∧
      s.readOctets (headerOnWire header crc ++ rest) = u.readOctets (crc :: rest) := by
  match header, h5 with
  | [ty, d, r, h, l], _ =>
    exact ⟨_, State.rxOctet_headerCrc _ ty d r h l crc rfl rfl, State.readOctets_header s ty d r h l (crc :: rest) hs⟩

theorem State.readOctets_headerOnWire_of_goesOn (hs : s.rx.rxState = .idle) (h5 : header.length = 5)
    (h : (s.collectedHeader header crc).headerDone = (t, false)) :
    s.readOctets (headerOnWire header crc ++ rest) = t.readOctets rest := by
  obtain ⟨u, hu, hread⟩ := State.readOctets_headerOnWire (crc := crc) (rest := rest) hs h5
  exact hread.trans (State.readOctets_of_goesOn (hu.trans h))

theorem State.readOctets_headerOnWire_of_completes (hs : s.rx.rxState = .idle) (h5 : header.length = 5)
    (h : (s.collectedHeader header crc).headerDone = (t, true)) :
    s.readOctets (headerOnWire header crc ++ rest) = { t with env.inputFifo := rest } := by
  obtain ⟨u, hu, hread⟩ := State.readOctets_headerOnWire (crc := crc) (rest := rest) hs h5
  exact hread.trans (State.readOctets_of_completes (hu.trans h))

section
variable {type destination source lenHi lenLo : Octet}

/-- R89. -/
theorem State.headerDone_badCrc (hcrc : crc ≠ headerCrc s.params.codec [type, destination, source, lenHi, lenLo]) :
    (s.collectedHeader [type, destination, source, lenHi, lenLo] crc).headerDone = (s.rejected 8 .badHeaderCrc, false) :=
  (State.headerDone_collected _ _ _ _ _ _ _ rfl).trans (if_pos hcrc)

/-- R90. -/
theorem State.headerDone_tooLong (hcrc : crc = headerCrc s.params.codec [type, destination, source, lenHi, lenLo])
    (hlen : s.params.codec.maxData < (frameLength lenHi lenLo).toNat) :
    (s.collectedHeader [type, destination, source, lenHi, lenLo] crc).headerDone = (s.rejected 8 .frameTooLong, false) :=
  (State.headerDone_collected _ _ _ _ _ _ _ rfl).trans ((if_neg (not_not.mpr hcrc)).trans (if_pos hlen))

end

/-- R90, R91: a good header of a frame without data completes it. -/
theorem State.headerDone_noData (hd : f.data = []) :
    (s.collectedHeader (headerOctets f) (headerCrc s.params.codec (headerOctets f))).headerDone =
      (s.received 8 f, true) := by
  obtain ⟨type, destination, source, data⟩ := f
  subst hd
  have hzero : frameLength (highOctet 0) (lowOctet 0) = 0 := frameLength_octets 0
  have hshort : ¬ s.params.codec.maxData < (frameLength (highOctet 0) (lowOctet 0)).toNat := by
    rw [hzero]; exact Nat.not_lt_zero _
  exact (State.headerDone_collected _ _ _ _ _ _ _ rfl).trans
    ((if_neg (not_not.mpr rfl)).trans ((if_neg hshort).trans (if_pos hzero)))

/-- R90: after the good header of a frame with data the data is awaited. -/
theorem State.headerDone_awaitsData (hd : f.data ≠ []) (hf : f.WellFormed s.params.codec)
    (hfits : f.data.length < 2 ^ 16) :
    (s.collectedHeader (headerOctets f) (headerCrc s.params.codec (headerOctets f))).headerDone =
      (s.awaitingData f, false) := by
  have hlen := frameLength_length hfits
  have hpos : frameLength (highOctet (BitVec.ofNat 16 f.data.length)) (lowOctet (BitVec.ofNat 16 f.data.length)) ≠ 0 := by
    intro hz
    rw [hz] at hlen
    exact hd (List.eq_nil_of_length_eq_zero hlen.symm)
  refine (State.headerDone_collected _ _ _ _ _ _ _ rfl).trans
    ((if_neg (not_not.mpr rfl)).trans ((if_neg (not_lt.mpr (hlen.trans_le hf))).trans ((if_neg hpos).trans ?_)))
  rw [frameLength_octets]
  rfl

/-! ## Data -/

theorem State.collectedData_rxLen {x : List Octet} (hfits : f.data.length < 2 ^ 16) :
    (s.collectedData f x).rx.rxLen.toNat = f.data.length := by
  rw [State.collectedData, State.awaitingData, BitVec.toNat_ofNat, Nat.mod_eq_of_lt hfits]

/-- Data octets and the low octet of the CRC are collected (R88). -/
theorem State.readOctets_awaitingData (hfits : f.data.length < 2 ^ 16) :
    (s.awaitingData f).readOctets (f.data ++ [lo] ++ rest) = (s.collectedData f (f.data ++ [lo])).readOctets rest := by
  have hlen : (s.awaitingData f).rx.rxLen.toNat = f.data.length := State.collectedData_rxLen (x := []) hfits
  refine (State.readOctets_data _ rest (s.awaitingData f) rfl rfl (by rw [hlen]; simp [State.awaitingData])).trans ?_
  rw [State.collectedData, ← Nat.add_assoc]
  rfl

/-- The high octet of the CRC has the data judged (R88, R92). -/
theorem State.rxOctet_collectedData (hfits : f.data.length < 2 ^ 16) :
    (s.collectedData f (f.data ++ [lo])).rxOctet hi =
      if lo = lowOctet (dataCrc s.params.codec f.data) ∧ hi = highOctet (dataCrc s.params.codec f.data) then
        (s.received (10 + f.data.length) f, true)
      else (s.rejected (10 + f.data.length) .badDataCrc, false) := by
  have hall : (s.collectedData f (f.data ++ [lo])).rxOctet hi = (s.collectedData f (f.data ++ [lo, hi])).dataDone := by
    rw [State.rxOctet_lastData _ _ rfl (by rw [State.collectedData_rxLen hfits]; simp [State.collectedData])]
    simp [State.collectedData, Nat.add_assoc, State.awaitingData, State.collectedHeader, State.counted]
  have hcount : 8 + (f.data ++ [lo, hi]).length = 10 + f.data.length := by simp; omega
  rw [hall, State.dataDone_collected _ f.data lo hi rfl (State.collectedData_rxLen hfits), ← hcount]
  rfl

/-! ## A whole frame -/

/-- R91: the octets of a well-formed frame complete it, from the idle parser. -/
theorem State.readOctets_encodeFrame (hs : s.rx.rxState = .idle) (hf : f.WellFormed s.params.codec)
    (hfits : f.data.length < 2 ^ 16) :
    s.readOctets (encodeFrame s.params.codec f ++ rest) =
      { s.received (encodeFrame s.params.codec f).length f with env.inputFifo := rest } := by
  by_cases hd : f.data = []
  · have hwire : encodeFrame s.params.codec f =
        headerOnWire (headerOctets f) (headerCrc s.params.codec (headerOctets f)) := by simp [encodeFrame, headerOnWire, hd]
    rw [hwire]
    exact State.readOctets_headerOnWire_of_completes hs rfl (State.headerDone_noData hd)
  · have hwire : encodeFrame s.params.codec f =
        headerOnWire (headerOctets f) (headerCrc s.params.codec (headerOctets f)) ++ (f.data ++
          [lowOctet (dataCrc s.params.codec f.data)] ++ [highOctet (dataCrc s.params.codec f.data)]) := by
      simp [encodeFrame, headerOnWire, hd]
    have hlen : (encodeFrame s.params.codec f).length = 10 + f.data.length := by
      rw [hwire]; simp [headerOnWire, headerOctets]; omega
    rw [hlen, hwire, List.append_assoc, List.append_assoc,
      State.readOctets_headerOnWire_of_goesOn hs rfl (State.headerDone_awaitsData hd hf hfits),
      State.readOctets_awaitingData hfits]
    exact State.readOctets_of_completes ((State.rxOctet_collectedData hfits).trans (if_pos ⟨rfl, rfl⟩))

/-- R84, R85, R91: the octets of a well-formed frame complete it, whatever number of 0x55 stand before it. -/
theorem State.readOctets_wire (n : Nat) (hs : s.Scanning) (hf : f.WellFormed s.params.codec)
    (hfits : f.data.length < 2 ^ 16) :
    s.readOctets (List.replicate n 0x55 ++ encodeFrame s.params.codec f ++ rest) =
      { s.received (List.replicate n 0x55 ++ encodeFrame s.params.codec f).length f with env.inputFifo := rest } := by
  have hidle := State.readOctets_encodeFrame (s := { s with eventCount := s.eventCount + n, rx.rxState := .idle })
    (rest := rest) rfl hf hfits
  rw [List.append_assoc, List.length_append, List.length_replicate]
  refine (State.readOctets_preambles n hs).trans (hidle.trans ?_)
  simp only [State.received, ← Nat.add_assoc]
  rfl

end

/-- Settles O10, by the two ways a header is rejected. -/
theorem badHeaderRestartsParser : Obligations.BadHeaderRestartsParser := by
  intro s type destination source lenHi lenLo crc rest hs
  constructor
  · intro hcrc
    exact State.readOctets_headerOnWire_of_goesOn hs rfl (State.headerDone_badCrc hcrc)
  · intro hcrc hlen
    exact State.readOctets_headerOnWire_of_goesOn hs rfl (State.headerDone_tooLong hcrc hlen)

/-- Settles O11: the good header leads to the data, whose CRC is rejected. -/
theorem badDataCrcRestartsParser : Obligations.BadDataCrcRestartsParser := by
  intro s f lo hi rest hs hd hk hf hcrc
  have hfits := f.data_length_lt hk hf
  have hoctets : headerOnWire (headerOctets f) (headerCrc s.params.codec (headerOctets f)) ++ f.data ++ [lo, hi] ++ rest =
      headerOnWire (headerOctets f) (headerCrc s.params.codec (headerOctets f)) ++ (f.data ++ [lo] ++ hi :: rest) := by simp
  rw [hoctets, State.readOctets_headerOnWire_of_goesOn hs rfl (State.headerDone_awaitsData hd hf hfits),
    State.readOctets_awaitingData hfits]
  exact State.readOctets_of_goesOn ((State.rxOctet_collectedData hfits).trans (if_neg hcrc))

/-- Settles O12, octet by octet. -/
theorem strayOctetsAreDropped : Obligations.StrayOctetsAreDropped := by
  intro s rest
  refine ⟨fun stray => State.readOctets_stray stray rest s, fun hs => ?_, fun b hs h55 hFF => ?_⟩
  · have hscanning : s.Scanning := by simp [hs]
    rw [State.readOctets_of_goesOn (State.rxOctet_preamble hscanning), State.counted_of_rxState hs]
  · exact State.readOctets_of_goesOn (State.rxOctet_preamble1_stray hs h55 hFF)

end Sys2Proof.Machine
end

section
/-! PROOFS. The drain: its abort check by parser state (R83), when a pending frame holds it off (R81), what it reads, and the
frame it receives from the FIFO, whole or in two pieces (R81, R91, R93). -/

namespace Sys2Proof.Machine

/-- No pending frame holds the drain off (R81). -/
abbrev State.ReadsOn (s : State) : Prop :=
  s.rx.receivedValidFrame = false ∨
    s.seq.state ∈ [MasterState.useToken, .doneWithToken, .passToken, .noToken, .answerDataRequest]

/-- The partial frame is discarded and its cause recorded (R83). -/
abbrev State.truncated (s : State) : State := (s.recordInvalid .truncated).resetParser

section
variable {s : State} {f : Frame} {rest : List Octet}

/-! ## The abort check -/

theorem State.abortCheck_of_lt (h : s.silence < s.params.tFrameAbort) : s.abortCheck = s :=
  if_neg (by simpa [State.abortDue] using h)

theorem State.abortCheck_of_le (h : (s.params.tFrameAbort : Int) ≤ s.silence) :
    (s.rx.rxState = .idle → s.abortCheck = s) ∧
    (s.rx.rxState = .preamble1 → s.abortCheck = s.resetParser) ∧
    (s.rx.rxState ∈ [RxState.preamble2, .header, .data] → s.abortCheck = s.truncated) := by
  have hdue : s.abortDue = true := by simpa [State.abortDue] using h
  unfold State.abortCheck
  cases s.rx.rxState <;> simp [hdue]

/-- No error is recorded, whatever the silence, where no part of a frame has been collected (R83). -/
theorem State.abortCheck_of_scanning (hs : s.Scanning) : s.abortCheck = s ∨ s.abortCheck = s.resetParser := by
  rcases lt_or_ge s.silence s.params.tFrameAbort with h | h
  · exact .inl (State.abortCheck_of_lt h)
  · obtain ⟨hidle, hpreamble, -⟩ := State.abortCheck_of_le h
    obtain hs | hs : s.rx.rxState = .idle ∨ s.rx.rxState = .preamble1 := by simpa using hs
    · exact .inl (hidle hs)
    · exact .inr (hpreamble hs)

/-! ## The hold-off -/

theorem State.drainHeldOff_eq_false : s.drainHeldOff = false ↔ s.ReadsOn := by
  cases hm : s.seq.state <;> simp [State.drainHeldOff, examinesFrames, State.ReadsOn, hm]

theorem State.drainHeldOff_eq_true :
    s.drainHeldOff = true ↔
      s.rx.receivedValidFrame = true ∧ s.seq.state ∈ [MasterState.idle, .waitForReply, .pollForMaster] := by
  cases hm : s.seq.state <;> simp [State.drainHeldOff, examinesFrames, hm]

/-- The abort check does not touch what the hold-off reads. -/
theorem State.abortCheck_drainHeldOff (s : State) : s.abortCheck.drainHeldOff = s.drainHeldOff := by
  obtain ⟨rx, h, -, hvalid, -⟩ := s.abortCheck_shape
  rw [h]
  exact congrArg (· && examinesFrames s.seq.state) hvalid

theorem State.drain_of_readsOn (h : s.ReadsOn) : s.drain = s.abortCheck.readOctets s.env.inputFifo := by
  obtain ⟨rx, hrx, -⟩ := s.abortCheck_shape
  have hon : ¬ s.abortCheck.drainHeldOff = true := by
    rw [State.abortCheck_drainHeldOff, State.drainHeldOff_eq_false.mpr h]; exact Bool.false_ne_true
  rw [State.drain, if_neg hon, hrx]

theorem State.drain_of_heldOff (hv : s.rx.receivedValidFrame = true)
    (hm : s.seq.state ∈ [MasterState.idle, .waitForReply, .pollForMaster]) : s.drain = s.abortCheck :=
  if_pos ((State.abortCheck_drainHeldOff s).trans (State.drainHeldOff_eq_true.mpr ⟨hv, hm⟩))

theorem State.readsOn_or_heldOff (s : State) :
    s.ReadsOn ∨ s.rx.receivedValidFrame = true ∧ s.seq.state ∈ [MasterState.idle, .waitForReply, .pollForMaster] := by
  rw [← State.drainHeldOff_eq_false, ← State.drainHeldOff_eq_true]
  exact (Bool.eq_false_or_eq_true _).symm

/-! ## What the drain receives -/

/-- R81, R91: a frame at the head of the FIFO is received by a drain that reads on from a parser with nothing collected. -/
theorem State.drain_wire (n : Nat) (hs : s.Scanning) (hon : s.ReadsOn) (hf : f.WellFormed s.params.codec)
    (hfits : f.data.length < 2 ^ 16)
    (hfifo : s.env.inputFifo = List.replicate n 0x55 ++ encodeFrame s.params.codec f ++ rest) :
    s.drain =
      { s.received (List.replicate n 0x55 ++ encodeFrame s.params.codec f).length f with env.inputFifo := rest } := by
  rw [State.drain_of_readsOn hon, hfifo]
  rcases State.abortCheck_of_scanning hs with h | h <;> rw [h]
  · exact State.readOctets_wire n hs hf hfits
  · exact State.readOctets_wire (s := s.resetParser) n List.mem_cons_self hf hfits

/-- A drain of an empty FIFO makes the abort check alone (R81, R83). -/
theorem State.drain_of_fifo_nil (hfifo : s.env.inputFifo = []) : s.drain = s.abortCheck := by
  rcases s.readsOn_or_heldOff with hon | ⟨hv, hm⟩
  · obtain ⟨rx, h, -⟩ := s.abortCheck_shape
    rw [State.drain_of_readsOn hon, hfifo, h, State.readOctets, ← hfifo]
  · exact State.drain_of_heldOff hv hm

/-- What a drain does, held off or not: it takes a prefix of the FIFO, counts it and stamps it, keeps both indications, and
leaves octets and writes `frame` only with the valid-frame flag set (R81, R82, R93). -/
theorem State.drain_takes (s : State) :
    ∃ taken left rx, s.env.inputFifo = taken ++ left ∧
      s.drain = { s with eventCount := s.eventCount + taken.length, rx := rx, env.inputFifo := left } ∧
      rx.lastNonSilence = (if taken = [] then s.rx.lastNonSilence else s.env.now) ∧
      (s.drainHeldOff = true → taken = []) ∧
      (left ≠ [] → rx.receivedValidFrame = true) ∧
      (s.rx.receivedValidFrame = true → rx.receivedValidFrame = true) ∧
      (s.rx.receivedInvalidFrame.isSome = true → rx.receivedInvalidFrame.isSome = true) ∧
      (rx.frame = s.rx.frame ∨ rx.receivedValidFrame = true) := by
  obtain ⟨rx, habort, hstamp, hvalid, hframe, hinvalid⟩ := s.abortCheck_shape
  rcases s.readsOn_or_heldOff with hon | ⟨hv, hm⟩
  · rw [State.drain_of_readsOn hon, habort]
    obtain ⟨taken, left, rx', hfifo, h, hstamp', hleft, hvalid', -, hframe', hinvalid'⟩ :=
      State.readOctets_shape s.env.inputFifo { s with rx := rx }
    refine ⟨taken, left, rx', hfifo, h, hstamp'.trans (by rw [← hstamp]), fun hheld => ?_, hleft,
      fun hv => hvalid' (hvalid.trans hv), fun hi => hinvalid' (hinvalid hi),
      hframe'.imp (fun he => he.trans hframe) And.left⟩
    exact absurd (hheld.symm.trans (State.drainHeldOff_eq_false.mpr hon)) nofun
  · rw [State.drain_of_heldOff hv hm, habort]
    exact ⟨[], s.env.inputFifo, rx, rfl, rfl, hstamp, fun _ => rfl, fun _ => hvalid.trans hv, hvalid.trans, hinvalid,
      .inl hframe⟩

/-- R82: a drain that reads on takes an octet where there is one. -/
theorem State.drain_counts (hon : s.ReadsOn) (hfifo : s.env.inputFifo ≠ []) : s.eventCount < s.drain.eventCount := by
  obtain ⟨b, octets, hb⟩ := List.exists_cons_of_ne_nil hfifo
  obtain ⟨rx, habort, -⟩ := s.abortCheck_shape
  rw [State.drain_of_readsOn hon, hb, habort]
  exact State.readOctets_counts { s with rx := rx } b octets

/-! ## A frame in two pieces -/

/-- Reading the first of two pieces of a frame's octets completes nothing, and the second piece is then read as if both
stood in the FIFO together. -/
theorem State.readOctets_pieces {first second : List Octet} {n : Nat} (hsecond : second ≠ [])
    (hn : n = (first ++ second).length)
    (hall : s.readOctets (first ++ second ++ rest) = { s.received n f with env.inputFifo := rest }) :
    (s.readOctets first).readOctets (second ++ rest) = { s.received n f with env.inputFifo := rest } ∧
      (s.readOctets first).env.inputFifo = [] ∧
      (s.readOctets first).rx.receivedValidFrame = s.rx.receivedValidFrame ∧
      (first ≠ [] → (s.readOctets first).rx.lastNonSilence = s.env.now) := by
  rw [List.append_assoc] at hall
  rcases State.readOctets_append first (second ++ rest) s with ⟨t, left, hcount, h⟩ | ⟨h, hfifo, hvalid, -, hstamp⟩
  · -- A frame complete within the first piece would have counted fewer octets.
    have hcounts : s.eventCount + n = t.eventCount := congrArg State.eventCount (hall.symm.trans h)
    have hpos := List.length_pos_iff.mpr hsecond
    rw [hn, List.length_append] at hcounts
    omega
  · exact ⟨h.symm.trans hall, hfifo, hvalid, hstamp⟩

/-- The same for the drain of the first piece, whose abort check records no error and discards no part of the frame. -/
theorem State.drain_firstPiece {first second : List Octet} (n : Nat) (hs : s.Scanning) (hon : s.ReadsOn)
    (hf : f.WellFormed s.params.codec) (hfits : f.data.length < 2 ^ 16)
    (hwire : List.replicate n 0x55 ++ encodeFrame s.params.codec f = first ++ second) (hsecond : second ≠ [])
    (hfifo : s.env.inputFifo = first) :
    s.drain.readOctets (second ++ rest) = { s.received (first ++ second).length f with env.inputFifo := rest } ∧
      s.drain.env.inputFifo = [] ∧ s.drain.rx.receivedValidFrame = s.rx.receivedValidFrame ∧
      (first ≠ [] → s.drain.rx.lastNonSilence = s.env.now) := by
  rw [State.drain_of_readsOn hon, hfifo]
  rcases State.abortCheck_of_scanning hs with h | h <;> rw [h]
  · exact State.readOctets_pieces hsecond rfl (hwire ▸ State.readOctets_wire n hs hf hfits)
  · exact State.readOctets_pieces (s := s.resetParser) hsecond rfl
      (hwire ▸ State.readOctets_wire (s := s.resetParser) n List.mem_cons_self hf hfits)

/-- A frame in two pieces is received by the second of two drains, stamped with that drain's time, when the second comes
before `T_FRAME_ABORT` is over (R82, R83). -/
theorem State.drain_pieces {first second : List Octet} {later : Int} (n : Nat) (hs : s.Scanning) (hon : s.ReadsOn)
    (hf : f.WellFormed s.params.codec) (hfits : f.data.length < 2 ^ 16)
    (hwire : List.replicate n 0x55 ++ encodeFrame s.params.codec f = first ++ second) (hsecond : second ≠ [])
    (hfifo : s.env.inputFifo = first) (hlater : later - s.env.now < s.params.tFrameAbort) :
    (s.drain.withClock later s.drain.rx.lastNonSilence (second ++ rest)).drain =
      (s.received (first ++ second).length f).withClock later later rest := by
  by_cases hfirst : first = []
  · -- Nothing was read yet: the second drain finds the whole frame in the FIFO.
    subst hfirst
    obtain rfl : _ = second := hwire
    rw [State.drain_of_fifo_nil hfifo]
    rcases State.abortCheck_of_scanning hs with h | h <;> rw [h]
    · exact State.drain_wire (s := s.withClock later s.rx.lastNonSilence _) n hs hon hf hfits rfl
    · exact State.drain_wire (s := s.resetParser.withClock later s.rx.lastNonSilence _) n List.mem_cons_self hon hf hfits
        rfl
  · obtain ⟨hread, -, hvalid, hstamp⟩ := State.drain_firstPiece (rest := rest) n hs hon hf hfits hwire hsecond hfifo
    obtain ⟨count, rx, fifo, hshape⟩ := s.drain_shape
    have hseq : s.drain.seq = s.seq := by rw [hshape]
    have hparams : s.drain.params = s.params := by rw [hshape]
    have hon' : (s.drain.withClock later s.drain.rx.lastNonSilence (second ++ rest)).ReadsOn := by
      refine hon.imp hvalid.trans fun hm => ?_
      exact hseq ▸ hm
    have hquiet : (s.drain.withClock later s.drain.rx.lastNonSilence (second ++ rest)).silence <
        (s.drain.withClock later s.drain.rx.lastNonSilence (second ++ rest)).params.tFrameAbort := by
      change later - s.drain.rx.lastNonSilence < s.drain.params.tFrameAbort
      rwa [hstamp hfirst, hparams]
    rw [State.drain_of_readsOn hon', State.abortCheck_of_lt hquiet]
    refine (State.readOctets_withClock (second ++ rest) s.drain _ _ _ (by simp [hsecond])).trans ?_
    rw [hread]
    rfl

end

/-- Settles O7: a whole frame by `drain_wire`, one in two pieces by `drain_pieces`. -/
theorem drainReceivesEncodedFrame : Obligations.DrainReceivesEncodedFrame := by
  intro s i n rest wire hk hi hs hon
  have hf := Instr.toFrame_wellFormed hi
  have hfits := i.toFrame.data_length_lt hk hf
  refine ⟨State.drain_wire n hs hon hf hfits, fun first second later hwire hsecond hfifo hlater => ?_⟩
  obtain ⟨-, hempty, hvalid, -⟩ := State.drain_firstPiece (rest := rest) n hs hon hf hfits hwire hsecond hfifo
  refine ⟨hempty, hvalid, ?_⟩
  rw [hwire]
  exact State.drain_pieces n hs hon hf hfits hwire hsecond hfifo hlater

/-- Settles O8, from what every drain does; that one reading on takes an octet is read off its count. -/
theorem drainReadsPrefix : Obligations.DrainReadsPrefix := by
  intro s
  obtain ⟨taken, left, rx, hfifo, h, hstamp, hheld, hleft, -⟩ := s.drain_takes
  have hcounts : s.ReadsOn → s.env.inputFifo ≠ [] → s.eventCount < s.drain.eventCount := State.drain_counts
  rw [h] at hcounts ⊢
  refine ⟨taken, hfifo, rfl, hstamp, fun hv hm => hheld (State.drainHeldOff_eq_true.mpr ⟨hv, hm⟩), ?_, hleft⟩
  rintro hon hne rfl
  exact lt_irrefl _ (hcounts hon hne)

/-- Settles O9, from what every drain does. -/
theorem indicationsAreIndependent : Obligations.IndicationsAreIndependent := by
  intro s
  obtain ⟨_, _, rx, -, h, -, -, -, hvalid, hinvalid, hframe⟩ := s.drain_takes
  rw [h]
  exact ⟨hvalid, hinvalid, hframe.resolve_left⟩

/-- Settles O13: each drain starts from the abort check, which leaves the parser idle. -/
theorem frameAbortByParserState : Obligations.FrameAbortByParserState := by
  intro s
  refine ⟨State.abortCheck_of_lt, fun hdue => ?_⟩
  obtain ⟨hidle, hpreamble, hpartial⟩ := State.abortCheck_of_le hdue
  refine ⟨hidle, hpreamble, fun hs => ?_⟩
  have habort := hpartial hs
  refine ⟨habort, fun hfifo => (State.drain_of_fifo_nil hfifo).trans habort,
    fun hv hm => (State.drain_of_heldOff hv hm).trans habort, fun i rest hk hi hon hfifo => ?_⟩
  have hf := Instr.toFrame_wellFormed hi
  have hfits := i.toFrame.data_length_lt hk hf
  rw [State.drain_of_readsOn hon, habort, hfifo]
  exact State.readOctets_encodeFrame (s := s.truncated) rfl hf hfits

/-- Where the current state's handler reaches its received-frame branch, it runs the pending frame's meaning (R105, R115,
R135). -/
theorem handler_examines {s : State} {f : Frame} (h : s.examinesNow = true) (hp : s.pendingFrame = some f) :
    handler s.seq.state s = exec (Instr.ofFrame f) s := by
  cases hs : s.seq.state <;> simp only [State.examinesNow, hs] at h
  case idle =>
    obtain ⟨hlost, hinvalid⟩ : s.tokenLost = false ∧ s.rx.receivedInvalidFrame = none := by simpa using h
    simp [handler, handleIdle, hlost, hinvalid, hp]
  case waitForReply =>
    obtain ⟨htimeout, hinvalid⟩ : s.replyTimedOut = false ∧ s.rx.receivedInvalidFrame = none := by simpa using h
    simp [handler, handleWaitForReply, htimeout, hinvalid, hp]
  case pollForMaster => simp [handler, handlePollForMaster, hp]
  all_goals cases h

theorem State.examinesNow_idle {s : State} (hm : s.seq.state = .idle) (hlost : s.silence < s.params.tNoToken)
    (hinvalid : s.rx.receivedInvalidFrame = none) : s.examinesNow = true := by
  simp [State.examinesNow, hm, State.tokenLost, hlost, hinvalid]

/-- A scheduled micro-step at the slot of such a state is that meaning, and the phase moves on (R103). -/
theorem step_examines {s : State} {i : Instr} {m : MasterState} {now : Int} {events : List Event}
    (hschedule : s.env.schedule = .worker now :: events) (hphase : s.seq.phase = .slot m) (hm : s.seq.state = m)
    (h : (s.started now events).examinesNow = true) (hp : s.pendingFrame = some i.toFrame) :
    step s = thenNext (exec i (s.started now events)) (fun t => t.advance m) := by
  subst hm
  rw [step_worker hschedule]
  refine (workerStep_slot (s := s.started now events) hphase).trans ?_
  rw [handler_examines (f := i.toFrame) h hp, Instr.ofFrame_toFrame]
  rfl

/-- Settles O26: O7's drain, then IDLE's slot, whose earlier branches (R106, R107) are shut. -/
theorem wireFrameIsReceivedThenExamined : Obligations.WireFrameIsReceivedThenExamined := by
  intro s t1 t2 events i rest hk hi hschedule hfifo hrunning hphase hstate hs hvalid hinvalid hlate
  have hf := Instr.toFrame_wellFormed hi
  have hfits := i.toFrame.data_length_lt hk hf
  have hdrain := State.drain_wire (s := s.started t1 (.worker t2 :: events)) (rest := rest) 0
    (List.mem_cons.mpr (.inl hs)) (.inl hvalid) hf hfits hfifo
  refine ⟨_, (step_worker hschedule).trans (workerStep_drain hphase hrunning), ?_⟩
  rw [hdrain]
  exact ⟨rfl, rfl, step_examines rfl rfl hstate (State.examinesNow_idle hstate hlate hinvalid) rfl⟩

end Sys2Proof.Machine
end

section
/-! PROOFS. The silence tests where the clock has gone back past the last wire event (R80, R190). -/

namespace Sys2Proof.Machine

/-- Every threshold but the reply timeout's strict one is at least 1 ms in a well-formed state, so a silence of 0 or less
reaches none. -/
theorem State.silence_reaches_nothing {s : State} (hwf : s.Wf) (h : s.silence ≤ 0) :
    s.tokenLost = false ∧ s.replyTimedOut = false ∧ s.usageTimedOut = false ∧ s.mayGenerateToken = false ∧
      s.abortDue = false ∧ s.silence < s.noTokenDelay := by
  obtain ⟨⟨hNoToken, -, -, -, hAbort, -⟩, ⟨-, -, -, hUsage, -⟩, -⟩ := hwf
  have hdelay : s.silence < s.noTokenDelay := by
    have hslots : (0 : Int) ≤ s.params.tSlot * s.cfg.thisStation.toNat := by positivity
    unfold State.noTokenDelay; omega
  have hbound : s.silence < s.noTokenBound := by
    have hslots : (0 : Int) ≤ s.params.tSlot * (s.cfg.maxMaster.toNat + 1) := by positivity
    unfold State.noTokenBound; omega
  refine ⟨decide_eq_false (by omega), decide_eq_false (by omega), decide_eq_false (by omega), ?_,
    decide_eq_false (by omega), hdelay⟩
  simp [State.mayGenerateToken, hdelay, hbound.le]

/-- Settles O59: the tests answer alike for a negative silence and for a silence of 0. -/
theorem negativeSilenceComparesAsZero : Obligations.NegativeSilenceComparesAsZero := by
  intro s hwf hback z
  obtain ⟨h1, h2, h3, h4, h5, h6⟩ := State.silence_reaches_nothing hwf (Int.sub_neg_of_lt hback).le
  obtain ⟨z1, z2, z3, z4, z5, z6⟩ := State.silence_reaches_nothing (s := z) hwf (Int.sub_self _).le
  rw [h1, h2, h3, h4, h5, z1, z2, z3, z4, z5, decide_eq_true h6, decide_eq_true z6]
  exact ⟨rfl, rfl, rfl, rfl, rfl, rfl⟩

end Sys2Proof.Machine
end

section
/-! PROOFS. What a bus of several blocks carries (R94, R193). -/

namespace Sys2Proof.Machine

theorem octetsSent_of_append {s t : State} {sent : List Transmission}
    (h : t.env.transmitted = s.env.transmitted ++ sent) : octetsSent s t = (sent.map fun x => x.octets).flatten := by
  rw [octetsSent, h, List.drop_left]

/-- A step of node `k` that answers a next state, node by node. -/
theorem busStep_of_step {nodes : List State} {k : Nat} {s t : State} (hk : nodes[k]? = some s) (hstep : step s = .next t) :
    busStep nodes k =
      .next (nodes.mapIdx fun j n => if j = k then t else n.receiveOctets (octetsSent s t)) := by
  rw [busStep, hk]
  simp only [hstep]

/-- Settles O60, node by node. -/
theorem busCarriesToOtherNodesOnly : Obligations.BusCarriesToOtherNodesOnly := by
  intro nodes nodes' k s t sent hk hstep hsent hbus
  rw [busStep_of_step hk hstep, octetsSent_of_append hsent] at hbus
  cases hbus
  refine ⟨List.length_mapIdx, ?_, fun j n hj hn => ?_⟩
  · simp [hk]
  · simp [hn, hj, State.receiveOctets]

end Sys2Proof.Machine
end

section
/-! PROOFS. What examining a frame does (44_frame_types.md): the column of the type's table that the current state and the
destination pick, and the types that share a column. -/

namespace Sys2Proof.Machine

/-- In state `s` the frame of `i` is consumed and does what `column` says for its addressing (R183). -/
def State.Examines (s : State) (i : Instr) (column : Addressing → State → State) : Prop :=
  exec i s = .next (column (addressing i.toFrame s.cfg.thisStation) (s.taken i.toFrame))

section
variable {s : State} {i : Instr} {column idle wait poll : Addressing → State → State}

/-! ## By who the frame is addressed to -/

theorem State.Examines.toThis (h : s.Examines i column) (hd : i.toFrame.destination = s.cfg.thisStation) :
    exec i s = .next (column .toThis (s.taken i.toFrame)) := by
  rcases addressing_cases i.toFrame s.cfg.thisStation with ⟨hc, -⟩ | ⟨-, hne, -⟩ | ⟨-, hne, -⟩
  · rw [h, hc]
  · exact absurd hd hne
  · exact absurd hd hne

/-- To another address, where a broadcast is treated as any other frame. -/
theorem State.Examines.elsewhere (h : s.Examines i column) (hd : i.toFrame.destination ≠ s.cfg.thisStation)
    (hsame : column .broadcast = column .other) : exec i s = .next (column .other (s.taken i.toFrame)) := by
  rcases addressing_cases i.toFrame s.cfg.thisStation with ⟨-, heq⟩ | ⟨hc, -⟩ | ⟨hc, -⟩
  · exact absurd heq hd
  · rw [h, hc, hsame]
  · rw [h, hc]

/-- To this station or broadcast, where the two are treated alike (R66). -/
theorem State.Examines.orBroadcast (h : s.Examines i column)
    (hd : i.toFrame.destination = s.cfg.thisStation ∨ i.toFrame.destination = Config.broadcastAddress)
    (hsame : column .broadcast = column .toThis) : exec i s = .next (column .toThis (s.taken i.toFrame)) := by
  rcases addressing_cases i.toFrame s.cfg.thisStation with ⟨hc, -⟩ | ⟨hc, -⟩ | ⟨-, hts, hbroadcast⟩
  · rw [h, hc]
  · rw [h, hc, hsame]
  · exact absurd hd (not_or.mpr ⟨hts, hbroadcast⟩)

/-- To another address, and no broadcast (R66). -/
theorem State.Examines.notBroadcast (h : s.Examines i column)
    (hd : ¬(i.toFrame.destination = s.cfg.thisStation ∨ i.toFrame.destination = Config.broadcastAddress)) :
    exec i s = .next (column .other (s.taken i.toFrame)) := by
  obtain ⟨hts, hbroadcast⟩ := not_or.mp hd
  rcases addressing_cases i.toFrame s.cfg.thisStation with ⟨-, heq⟩ | ⟨-, -, heq⟩ | ⟨hc, -⟩
  · exact absurd heq hts
  · exact absurd heq hbroadcast
  · rw [h, hc]

/-! ## By the current state -/

theorem examines_in_idle (i : Instr) (hs : s.seq.state = .idle)
    (hi : exec i s = .next (s.examine i.toFrame idle wait poll)) : s.Examines i idle := by
  rw [State.Examines, hi, State.examine, hs]

theorem examines_in_wait (i : Instr) (hs : s.seq.state = .waitForReply)
    (hi : exec i s = .next (s.examine i.toFrame idle wait poll)) : s.Examines i wait := by
  rw [State.Examines, hi, State.examine, hs]

theorem examines_in_poll (i : Instr) (hs : s.seq.state = .pollForMaster)
    (hi : exec i s = .next (s.examine i.toFrame idle wait poll)) : s.Examines i poll := by
  rw [State.Examines, hi, State.examine, hs]

/-- Outside the three examining states the frame stays pending (R104). -/
theorem exec_of_not_examinesFrames (hs : examinesFrames s.seq.state = false) (i : Instr) :
    exec i s = .next (s.recordValid i.toFrame) := by
  obtain ⟨t, ht, hx⟩ := exec_examined i s
  cases hx
  case pending => exact ht
  -- Every other outcome happens in an examining state.
  case dropped h | toIdle h => rcases h with h | h <;> (rw [h] at hs; cases hs)
  all_goals rename_i h _ _; rw [h] at hs; cases hs

theorem not_examinesFrames_of_mem {m : MasterState}
    (h : m ∈ [MasterState.useToken, .doneWithToken, .passToken, .noToken, .answerDataRequest]) :
    examinesFrames m = false := by
  revert m; decide

/-! ## Types that share a column -/

/-- R112, R113. -/
theorem State.Examines.request (h : s.Examines i (idleOnRequest i.toFrame)) :
    (i.toFrame.destination = s.cfg.thisStation → exec i s = .next ((s.taken i.toFrame).takeRequest i.toFrame)) ∧
    (i.toFrame.destination ≠ s.cfg.thisStation → exec i s = .next (s.taken i.toFrame)) :=
  ⟨fun hd => h.toThis hd, fun hd => h.elsewhere hd rfl⟩

/-- R111, R113. -/
theorem State.Examines.idleData (h : s.Examines i (idleOnData i.toFrame)) :
    (i.toFrame.destination = s.cfg.thisStation ∨ i.toFrame.destination = Config.broadcastAddress →
      exec i s = .next ((s.taken i.toFrame).deliver (.noReply i.toFrame))) ∧
    (¬(i.toFrame.destination = s.cfg.thisStation ∨ i.toFrame.destination = Config.broadcastAddress) →
      exec i s = .next (s.taken i.toFrame)) :=
  ⟨fun hd => h.orBroadcast hd rfl, fun hd => h.notBroadcast hd⟩

/-- R118, R119. -/
theorem State.Examines.waitData (h : s.Examines i (waitOnData i.toFrame)) :
    (i.toFrame.destination = s.cfg.thisStation →
      exec i s = .next (((s.taken i.toFrame).deliver (.noReply i.toFrame)).goto .doneWithToken)) ∧
    (i.toFrame.destination ≠ s.cfg.thisStation → exec i s = .next (s.taken i.toFrame)) :=
  ⟨fun hd => h.toThis hd, fun hd => h.elsewhere hd rfl⟩

/-- R118, R119. -/
theorem State.Examines.waitForeign (h : s.Examines i waitOnForeignFrame) (hs : s.seq.state = .waitForReply) :
    exec i s =
      .next ((s.taken i.toFrame).goto
        (if i.toFrame.destination = s.cfg.thisStation then .waitForReply else .idle)) := by
  split_ifs with hd
  · have hstays : (s.taken i.toFrame).goto .waitForReply = s.taken i.toFrame := by rw [← hs]; rfl
    rw [hstays]
    exact h.toThis hd
  · exact h.elsewhere hd rfl

end

/-! ## The obligations -/

/-- Settles O14, by the destination. -/
theorem tokenExaminedInIdle : Obligations.TokenExaminedInIdle :=
  fun _ d r x hs =>
    ⟨fun hd => (examines_in_idle (.token d r x) hs rfl).toThis hd,
      fun hd => (examines_in_idle (.token d r x) hs rfl).elsewhere hd rfl⟩

/-- Settles O15, by the destination. -/
theorem pollAnsweredInIdle : Obligations.PollAnsweredInIdle :=
  fun _ d r x hs =>
    ⟨fun hd => (examines_in_idle (.pfm d r x) hs rfl).toThis hd,
      fun hd => (examines_in_idle (.pfm d r x) hs rfl).elsewhere hd rfl⟩

/-- Settles O16: the two requests share IDLE's column. -/
theorem requestTakenInIdle : Obligations.RequestTakenInIdle := by
  intro s d r x hs
  simp only [List.forall_mem_cons]
  exact ⟨(examines_in_idle (.treq d r x) hs rfl).request, (examines_in_idle (.der d r x) hs rfl).request, nofun⟩

/-- Settles O17: the two kinds of data share IDLE's column. -/
theorem dataDeliveredInIdle : Obligations.DataDeliveredInIdle := by
  intro s d r x hs
  simp only [List.forall_mem_cons]
  exact ⟨(examines_in_idle (.tresp d r x) hs rfl).idleData, (examines_in_idle (.dner d r x) hs rfl).idleData, nofun⟩

/-- Settles O18: IDLE's column of these types is `dropFrame`. -/
theorem otherTypesDroppedInIdle : Obligations.OtherTypesDroppedInIdle := by
  intro s d r x l3 l4 l5 l6 l7 hs
  simp only [List.forall_mem_cons]
  refine ⟨?_, ?_, ?_, ?_, ?_, ?_, ?_, nofun⟩
  all_goals exact examines_in_idle (idle := dropFrame) _ hs rfl

/-- Settles O19: the two kinds of data share a column, and RPOST goes by its destination. -/
theorem repliesEndWait : Obligations.RepliesEndWait := by
  intro s d r x hs
  simp only [List.forall_mem_cons]
  refine ⟨⟨(examines_in_wait (.tresp d r x) hs rfl).waitData, (examines_in_wait (.dner d r x) hs rfl).waitData,
    nofun⟩, ?_⟩
  split_ifs with hd
  · exact (examines_in_wait (.rpost d r x) hs rfl).toThis hd
  · exact (examines_in_wait (.rpost d r x) hs rfl).elsewhere hd rfl

/-- Settles O20: WAIT_FOR_REPLY's column of these types is `waitOnForeignFrame`. -/
theorem foreignFramesInWait : Obligations.ForeignFramesInWait := by
  intro s d r x l3 l4 l5 l6 l7 hs
  simp only [List.forall_mem_cons]
  refine ⟨?_, ?_, ?_, ?_, ?_, ?_, ?_, ?_, ?_, ?_, nofun⟩
  all_goals exact (examines_in_wait _ hs rfl).waitForeign hs

/-- Settles O21, by RPFM's column to this station. -/
theorem pollReplyTakesSuccessor : Obligations.PollReplyTakesSuccessor :=
  fun _ d r x hs hd => (examines_in_poll (.rpfm d r x) hs rfl).toThis hd

/-- Settles O22: POLL_FOR_MASTER's column of every type but RPFM is `pollOnOtherFrame`. -/
theorem otherFramesEndPoll : Obligations.OtherFramesEndPoll := by
  intro s d r x l3 l4 l5 l6 l7 hs
  simp only [List.forall_mem_cons]
  refine ⟨⟨?_, ?_, ?_, ?_, ?_, ?_, ?_, ?_, ?_, ?_, ?_, ?_, nofun⟩,
    fun hd => (examines_in_poll (.rpfm d r x) hs rfl).elsewhere hd rfl⟩
  all_goals exact examines_in_poll (poll := pollOnOtherFrame) _ hs rfl

/-- Settles O23: these are the states that examine no frames. -/
theorem framesStayPendingElsewhere : Obligations.FramesStayPendingElsewhere :=
  fun _ i hs => exec_of_not_examinesFrames (not_examinesFrames_of_mem hs) i

end Sys2Proof.Machine
end

section
/-! PROOFS. The two readings of the received-frame branches agree: the state's branches, sorted by who the frame is addressed
to, are the columns of the type's table (R105, R115, R135 against R220 to R228). -/

namespace Sys2Proof.Machine

/-- IDLE's branches, sorted by the addressing of the frame (R108 to R113). -/
def idleColumn (f : Frame) (a : Addressing) (s : State) : State :=
  match a with
  | .toThis =>
    if f.type = typeToken then s.acceptToken
    else if f.type = typePfm then s.sendFrame typeRpfm f.source []
    else if f.type = typeDner ∨ f.type = typeTresp then s.deliver (.noReply f)
    else if f.type = typeDer ∨ f.type = typeTreq then s.takeRequest f
    else s
  | .broadcast => if f.type = typeDner ∨ f.type = typeTresp then s.deliver (.noReply f) else s
  | .other => s

/-- WAIT_FOR_REPLY's branches, sorted by the addressing of the frame (R118, R119). -/
def waitColumn (f : Frame) (a : Addressing) (s : State) : State :=
  if f.type = typeDner ∨ f.type = typeTresp then waitOnData f a s
  else if f.type = typeRpost ∧ a = .toThis then s.goto .doneWithToken
  else waitOnForeignFrame a s

/-- POLL_FOR_MASTER's branches, sorted by the addressing of the frame (R136, R137). -/
def pollColumn (f : Frame) (a : Addressing) (s : State) : State :=
  if f.type = typeRpfm ∧ a = .toThis then s.acceptSuccessor f.source else s.goto .idle

section
variable {f : Frame} {s : State}

/-! ## Unknown types -/

theorem knownType_eq_false_iff : ∀ t : Octet, knownType t = false ↔ Laws.Classify.NoneDefined t := by decide

theorem idleColumn_unknown (h : Laws.Classify.NoneDefined f.type) (a : Addressing) : idleColumn f a s = s := by
  obtain ⟨htoken, hpfm, -, htreq, htresp, hder, hdner, -⟩ := h
  cases a
  · simp only [idleColumn, htoken, hpfm, hdner, htresp, hder, htreq, or_self, if_false]
  · simp only [idleColumn, hdner, htresp, or_self, if_false]
  · rfl

theorem waitColumn_unknown (h : Laws.Classify.NoneDefined f.type) (a : Addressing) :
    waitColumn f a s = waitOnForeignFrame a s := by
  obtain ⟨-, -, -, -, htresp, -, hdner, hrpost⟩ := h
  simp only [waitColumn, hdner, htresp, hrpost, or_self, false_and, if_false]

theorem pollColumn_unknown (h : Laws.Classify.NoneDefined f.type) (a : Addressing) : pollColumn f a s = s.goto .idle := by
  obtain ⟨-, -, hrpfm, -⟩ := h
  simp only [pollColumn, hrpfm, false_and, if_false]

/-! ## The state's branches -/

/-- At a legal station address no frame is both to this station and broadcast (R8, R65, R67). -/
theorem addressing_flags (f : Frame) {ts : Octet} (hts : ts.toNat ≤ 127) :
    (addressing f ts = .toThis ∧ forStation f ts = true ∧ broadcast f = false) ∨
    (addressing f ts = .broadcast ∧ forStation f ts = false ∧ broadcast f = true) ∨
    (addressing f ts = .other ∧ forStation f ts = false ∧ broadcast f = false) := by
  have hlegal : ts ≠ Config.broadcastAddress := by rintro rfl; exact absurd hts (by decide)
  rcases addressing_cases f ts with ⟨hc, rfl⟩ | ⟨hc, hd, hb⟩ | ⟨hc, hd, hb⟩
  · exact .inl ⟨hc, beq_self_eq_true _, beq_false_of_ne hlegal⟩
  · exact .inr (.inl ⟨hc, beq_false_of_ne hd, beq_iff_eq.mpr hb⟩)
  · exact .inr (.inr ⟨hc, beq_false_of_ne hd, beq_false_of_ne hb⟩)

theorem idleFrameBranch_eq_column (f : Frame) (hts : s.cfg.thisStation.toNat ≤ 127) :
    idleFrameBranch f s = idleColumn f (addressing f s.cfg.thisStation) s := by
  cases hk : knownType f.type with
  | false => rw [idleFrameBranch, hk, idleColumn_unknown ((knownType_eq_false_iff _).mp hk)]; rfl
  | true =>
    rcases addressing_flags f hts with ⟨hc, hf, hb⟩ | ⟨hc, hf, hb⟩ | ⟨hc, hf, hb⟩
    · simp [idleFrameBranch, idleColumn, State.acceptToken, State.takeRequest, forStationOrBroadcast, hk, hc, hf, hb]
    · by_cases hdata : f.type = typeDner ∨ f.type = typeTresp
      · rcases hdata with h | h <;> simp [idleFrameBranch, idleColumn, forStationOrBroadcast, hc, hf, hb, h, knownType]
      · have hnodata : (f.type == typeDner || f.type == typeTresp) = false := by simpa using hdata
        rw [idleFrameBranch, hnodata, hc, idleColumn, if_neg hdata]
        simp [hf]
    · simp [idleFrameBranch, idleColumn, forStationOrBroadcast, hc, hf, hb]

theorem waitFrameBranch_eq_column (f : Frame) (hts : s.cfg.thisStation.toNat ≤ 127) :
    waitFrameBranch f s = waitColumn f (addressing f s.cfg.thisStation) s := by
  have hknown : (knownType f.type && (f.type == typeDner || f.type == typeTresp)) =
      (f.type == typeDner || f.type == typeTresp) := by
    generalize f.type = t; revert t; decide
  rw [waitFrameBranch, hknown]
  by_cases hdata : f.type = typeDner ∨ f.type = typeTresp
  · have hb : (f.type == typeDner || f.type == typeTresp) = true := by simpa using hdata
    rw [waitColumn, if_pos hdata, hb]
    rcases addressing_flags f hts with ⟨hc, hf, -⟩ | ⟨hc, hf, -⟩ | ⟨hc, hf, -⟩ <;> rw [hc, hf] <;> rfl
  · have hb : (f.type == typeDner || f.type == typeTresp) = false := by simpa using hdata
    rw [waitColumn, if_neg hdata, hb]
    rcases addressing_flags f hts with ⟨hc, hf, -⟩ | ⟨hc, hf, -⟩ | ⟨hc, hf, -⟩ <;> simp [hc, hf, waitOnForeignFrame]

theorem pollFrameBranch_eq_column (f : Frame) (hts : s.cfg.thisStation.toNat ≤ 127) :
    pollFrameBranch f s = pollColumn f (addressing f s.cfg.thisStation) s := by
  rcases addressing_flags f hts with ⟨hc, hf, -⟩ | ⟨hc, hf, -⟩ | ⟨hc, hf, -⟩
  · simp [pollFrameBranch, pollColumn, State.acceptSuccessor, State.sendToken, hc, hf]
  · simp [pollFrameBranch, pollColumn, hc, hf]
  · simp [pollFrameBranch, pollColumn, hc, hf]

/-! ## The type's table -/

/-- A type whose table has the state's columns does what the state's branches do. -/
theorem exec_eq_frameBranch (i : Instr) {idle wait poll : Addressing → State → State}
    (hts : s.cfg.thisStation.toNat ≤ 127) (hi : exec i s = .next (s.examine i.toFrame idle wait poll))
    (hidle : ∀ a t, idle a t = idleColumn i.toFrame a t) (hwait : ∀ a t, wait a t = waitColumn i.toFrame a t)
    (hpoll : ∀ a t, poll a t = pollColumn i.toFrame a t) : exec i s = .next (frameBranch i.toFrame s) := by
  cases hs : s.seq.state
  case idle =>
    rw [examines_in_idle i hs hi, hidle, frameBranch, hs]
    exact congrArg _ (idleFrameBranch_eq_column (s := s.taken i.toFrame) i.toFrame hts).symm
  case waitForReply =>
    rw [examines_in_wait i hs hi, hwait, frameBranch, hs]
    exact congrArg _ (waitFrameBranch_eq_column (s := s.taken i.toFrame) i.toFrame hts).symm
  case pollForMaster =>
    rw [examines_in_poll i hs hi, hpoll, frameBranch, hs]
    exact congrArg _ (pollFrameBranch_eq_column (s := s.taken i.toFrame) i.toFrame hts).symm
  all_goals rw [exec_of_not_examinesFrames (by rw [hs]; rfl), frameBranch, hs]

theorem exec_unknown_eq_frameBranch (i : Instr) (hts : s.cfg.thisStation.toNat ≤ 127)
    (hi : exec i s = .next (s.examineUnknown i.toFrame)) (h : Laws.Classify.NoneDefined i.toFrame.type) :
    exec i s = .next (frameBranch i.toFrame s) :=
  exec_eq_frameBranch i hts hi (fun a _ => (idleColumn_unknown h a).symm) (fun a _ => (waitColumn_unknown h a).symm)
    (fun a _ => (pollColumn_unknown h a).symm)

end

/-- Settles O24: the table of each defined type has the state's columns, by the addressing; so has the one table of the
unknown types. -/
theorem tablesAgreeWithHandlers : Obligations.TablesAgreeWithHandlers := by
  intro i s hts
  cases i
  case unknown08 l _ _ _ => exact exec_unknown_eq_frameBranch _ hts rfl (Laws.Classify.type_08_0F l).1
  case unknown10 l _ _ _ => exact exec_unknown_eq_frameBranch _ hts rfl (Laws.Classify.type_10_1F l).1
  case unknown20 l _ _ _ => exact exec_unknown_eq_frameBranch _ hts rfl (Laws.Classify.type_20_3F l).1
  case unknown40 l _ _ _ => exact exec_unknown_eq_frameBranch _ hts rfl (Laws.Classify.type_40_7F l).1
  case unknown80 l _ _ _ => exact exec_unknown_eq_frameBranch _ hts rfl (Laws.Classify.type_80_FF l).1
  all_goals
    refine exec_eq_frameBranch _ hts rfl (fun a _ => ?_) (fun a _ => ?_) (fun a _ => ?_)
    · cases a <;> rfl
    · cases a <;> rfl
    · cases a <;> rfl

end Sys2Proof.Machine
end

section
/-! PROOFS. The worker's micro-steps of a cycle (R103): the slot of the current state runs its handler and the phase moves on;
every micro-step but the drain comes nearer to the end of the cycle; and outside the examining states no handler touches
the two indications. -/

namespace Sys2Proof.Machine

/-- The phase after a slot: the next state's slot, or the drain after the last (R103). -/
def phaseAfter (m : MasterState) : Phase := (nextSlot m).elim .drain .slot

section
variable {s t : State} {now : Int} {rest : List Event}

theorem State.advance_eq_setPhase {m m' : MasterState} (h : s.seq.phase = .slot m') :
    s.advance m = s.setPhase (phaseAfter m) := by
  rw [State.advance_of_slot h, phaseAfter]
  cases nextSlot m <;> rfl

/-! ## The step at the slot of the current state -/

theorem step_at_slot (h : s.AtSlot now rest) :
    step s = thenNext (handler s.seq.state (s.started now rest)) (fun t => t.advance s.seq.state) :=
  (step_worker h.1).trans (workerStep_slot (s := s.started now rest) h.2)

/-- The handler's branch answers a next state and leaves the phase, so the step is that branch and the move to the next
slot. -/
theorem step_of_handler {m : MasterState} (hat : s.AtSlot now rest) (hm : s.seq.state = m)
    (h : handler m (s.started now rest) = .next t) (hp : t.seq.phase = s.seq.phase) :
    step s = .next (t.setPhase (phaseAfter m)) := by
  subst hm
  rw [step_at_slot hat, h, thenNext, State.advance_eq_setPhase (hp.trans hat.2)]

/-! ## The end of the cycle -/

theorem microStepsLeft_phaseAfter : ∀ m, microStepsLeft (phaseAfter m) < microStepsLeft (.slot m)
  | .idle | .useToken | .waitForReply | .doneWithToken | .passToken | .noToken | .pollForMaster
  | .answerDataRequest => by decide

theorem Examined.phase_cases {f : Frame} (h : Examined f s t) :
    t.seq.phase = s.seq.phase ∨ s.seq.state = .idle ∧ ∃ source, t.seq.phase = .idleDerTail source := by
  cases h
  case request hs _ _ => exact .inr ⟨hs, _, rfl⟩
  all_goals exact .inl rfl

/-- Of the phase a handler writes only IDLE_DER_TAIL, and only IDLE's does (R112). -/
theorem Handled.phase_cases (h : Handled s t) :
    t.seq.phase = s.seq.phase ∨ s.seq.state = .idle ∧ ∃ source, t.seq.phase = .idleDerTail source := by
  cases h
  case examined hx => exact (examined_of_exec hx).phase_cases
  all_goals exact .inl rfl

theorem workerStep_microStepsLeft (h : workerStep s = .next t) (hp : s.seq.phase ≠ .drain) :
    microStepsLeft t.seq.phase < microStepsLeft s.seq.phase := by
  rcases workerStep_cases h with ⟨hd, -⟩ | ⟨hd, -⟩ | ⟨m, hm, -, rfl⟩ | ⟨u, hm, hu, rfl⟩ | ⟨source, hm, rfl⟩
  · exact absurd hd hp
  · exact absurd hd hp
  · rw [State.advance_eq_setPhase hm, hm]
    exact microStepsLeft_phaseAfter m
  · rcases (handler_handled hu).phase_cases with hkept | ⟨hidle, source, htail⟩
    · rw [State.advance_eq_setPhase (hkept.trans hm), hm]
      exact microStepsLeft_phaseAfter _
    · have hstays : u.advance s.seq.state = u := by rw [State.advance, htail]
      rw [hstays, htail, hm, hidle]
      exact Nat.lt_succ_self 8
  · rw [hm]
    exact Nat.lt_succ_self 7

/-! ## The two indications -/

/-- Outside the three examining states no handler touches `frame` or the two indications (R104, R178). -/
theorem Handled.keeps_indications (h : Handled s t) (hs : examinesFrames s.seq.state = false) :
    t.rx = { s.rx with lastNonSilence := t.rx.lastNonSilence } := by
  cases h
  case examined he _ _ => rw [hs] at he; cases he
  case invalidDropped h _ _ | waitBroken h _ | ownPollEnded h _ _ | passAfterPoll h _ _ _ | pollNext h _ _ _ _
      | declareSoleMaster h _ _ _ _ => rw [h] at hs; cases hs
  all_goals rfl

theorem workerStep_keeps_indications (h : workerStep s = .next t) (hp : s.seq.phase ≠ .drain)
    (hs : examinesFrames s.seq.state = false) : t.rx = { s.rx with lastNonSilence := t.rx.lastNonSilence } := by
  rcases workerStep_cases h with ⟨hd, -⟩ | ⟨hd, -⟩ | ⟨m, -, -, rfl⟩ | ⟨u, -, hu, rfl⟩ | ⟨source, -, rfl⟩
  · exact absurd hd hp
  · exact absurd hd hp
  · obtain ⟨p, e, -⟩ := s.advance_shape m
    rw [e]
  · obtain ⟨p, e, -⟩ := u.advance_shape s.seq.state
    rw [e]
    exact (handler_handled hu).keeps_indications hs
  · rfl

end

/-! ## The obligations -/

/-- Settles O25, by the lemma of O26 that a micro-step examines the pending frame. -/
theorem stepRunsDecodedFrame : Obligations.StepRunsDecodedFrame :=
  fun _ _ _ _ _ _ ⟨hschedule, hphase⟩ hexamines _ hvalid hframe =>
    step_examines hschedule hphase rfl hexamines (State.pendingFrame_eq_some.mpr ⟨hvalid, hframe⟩)

/-- Settles O27, by the two ways a micro-step is empty. -/
theorem emptyMicroSteps : Obligations.EmptyMicroSteps := by
  intro s now rest hschedule
  rw [step_worker hschedule]
  refine ⟨fun m hphase hm => ?_, fun hphase hstopped => workerStep_notRunning hphase hstopped⟩
  rw [workerStep_empty (s := s.started now rest) hphase hm, State.advance_of_slot (s := s.started now rest) hphase]
  rfl

/-- Settles O28, by the phase in which the micro-step starts. -/
theorem cycleReachesItsEnd : Obligations.CycleReachesItsEnd := by
  intro s now rest hschedule
  rw [step_worker hschedule]
  refine ⟨fun hphase hrunning => ?_, fun t h hphase => workerStep_microStepsLeft (s := s.started now rest) h hphase⟩
  obtain ⟨_, _, _, e⟩ := (s.started now rest).drain_shape
  rw [workerStep_drain (s := s.started now rest) hphase hrunning, e]
  rfl

/-- Settles O39, by the micro-step at IDLE_DER_TAIL. -/
theorem requestTailEntersAnswerState : Obligations.RequestTailEntersAnswerState :=
  fun s now rest _ hschedule hphase =>
    (step_worker hschedule).trans (workerStep_tail (s := s.started now rest) hphase)

/-- Settles O41: only IDLE, WAIT_FOR_REPLY and POLL_FOR_MASTER consume an indication, and only the drain records one. -/
theorem unexaminedIndicationsStay : Obligations.UnexaminedIndicationsStay := by
  intro s t now rest hschedule hphase hstate h
  rw [step_worker hschedule] at h
  have e := workerStep_keeps_indications (s := s.started now rest) h hphase (not_examinesFrames_of_mem hstate)
  rw [e]
  exact ⟨rfl, rfl, rfl⟩

end Sys2Proof.Machine
end

section
/-! PROOFS. The handlers branch by branch, one equation per branch with its guard in the numbers of the registers (R106 to
R147), and the steps that run them. -/

namespace Sys2Proof.Machine

section
variable {s : State}

/-! ## The pending indications -/

theorem State.pendingFrame_eq_none (h : s.rx.receivedValidFrame = false) : s.pendingFrame = none := by
  simp [State.pendingFrame, h]

/-! ## IDLE (R105 to R107) -/

theorem handleIdle_lostToken (h : (s.params.tNoToken : Int) ≤ s.silence) : handleIdle s = .next (s.goto .noToken) := by
  simp [handleIdle, State.tokenLost, h]

theorem handleIdle_invalid (h : s.silence < s.params.tNoToken) (hi : s.rx.receivedInvalidFrame ≠ none) :
    handleIdle s = .next s.consumeInvalid := by
  simp [handleIdle, State.tokenLost, h, Option.isSome_iff_ne_none, hi]

theorem handleIdle_nothing (h : s.silence < s.params.tNoToken) (hi : s.rx.receivedInvalidFrame = none)
    (hv : s.rx.receivedValidFrame = false) : handleIdle s = .next s := by
  simp [handleIdle, State.tokenLost, h, hi, State.pendingFrame_eq_none hv]

/-! ## USE_TOKEN (R114) -/

/-- After data that needs no reply the possession goes on, after a request the reply is waited for. -/
theorem afterQueuedFrame_eq_some {t : Octet} (h : t ∈ [0x06#8, 0x04#8, 0x05#8, 0x03#8]) :
    afterQueuedFrame t = some (if t ∈ [0x06#8, 0x04#8] then .doneWithToken else .waitForReply) := by
  revert t; decide

theorem afterQueuedFrame_eq_none {t : Octet} (h : t ∉ [0x06#8, 0x04#8, 0x05#8, 0x03#8]) : afterQueuedFrame t = none := by
  revert t; decide

theorem handleUseToken_empty (h : s.buf.framesToSend = []) : handleUseToken s = .next s.endPossession := by
  simp [handleUseToken, h]

theorem handleUseToken_sends {q : Frame} {qs : List Frame} {m : MasterState} (h : s.buf.framesToSend = q :: qs)
    (hm : afterQueuedFrame q.type = some m) :
    handleUseToken s =
      .next { State.sendFrame { s with buf.framesToSend := qs } q.type q.destination q.data with
        seq.state := m, seq.frameCount := s.seq.frameCount + 1 } := by
  simp [handleUseToken, h, hm]

theorem handleUseToken_faults {q : Frame} {qs : List Frame} (h : s.buf.framesToSend = q :: qs)
    (hm : afterQueuedFrame q.type = none) : handleUseToken s = .fault (.unreachableQueueType q.type) := by
  simp [handleUseToken, h, hm]

/-! ## WAIT_FOR_REPLY (R115 to R117) -/

theorem handleWaitForReply_timeout (h : (s.params.tReplyTimeout : Int) < s.silence) :
    handleWaitForReply s = .next s.endPossession := by
  simp [handleWaitForReply, State.replyTimedOut, h]

theorem handleWaitForReply_invalid (h : s.silence ≤ s.params.tReplyTimeout) (hi : s.rx.receivedInvalidFrame ≠ none) :
    handleWaitForReply s = .next (s.consumeInvalid.goto .doneWithToken) := by
  simp [handleWaitForReply, State.replyTimedOut, h, Option.isSome_iff_ne_none, hi]

theorem handleWaitForReply_nothing (h : s.silence ≤ s.params.tReplyTimeout) (hi : s.rx.receivedInvalidFrame = none)
    (hv : s.rx.receivedValidFrame = false) : handleWaitForReply s = .next s := by
  simp [handleWaitForReply, State.replyTimedOut, h, hi, State.pendingFrame_eq_none hv]

/-! ## DONE_WITH_TOKEN (R120 to R127) -/

theorem State.withinPollInterval_eq_true (h : s.seq.tokenCount + 1 < s.params.nPoll) : s.withinPollInterval = true :=
  decide_eq_true (by omega)

theorem State.withinPollInterval_eq_false (h : s.params.nPoll ≤ s.seq.tokenCount + 1) : s.withinPollInterval = false :=
  decide_eq_false (by omega)

theorem handleDoneWithToken_useAgain (h : s.seq.frameCount < s.cfg.maxInfoFrames) :
    handleDoneWithToken s = .next (s.goto .useToken) := by
  simp [handleDoneWithToken, h]

section
variable (hspent : s.cfg.maxInfoFrames ≤ s.seq.frameCount)
include hspent

theorem handleDoneWithToken_pollFirst (hsole : s.seq.soleMaster = false) (hnext : s.seq.nextStation = s.cfg.thisStation) :
    handleDoneWithToken s = .next s.pollFirst := by
  simp [handleDoneWithToken, hspent, hsole, hnext]

theorem handleDoneWithToken_keepToken (hsole : s.seq.soleMaster = true) (hpoll : s.seq.tokenCount + 1 < s.params.nPoll) :
    handleDoneWithToken s = .next s.keepToken := by
  simp [handleDoneWithToken, hspent, hsole, State.withinPollInterval_eq_true hpoll]

/-- Without being sole master, b4 passes the token on. -/
theorem handleDoneWithToken_passToken (hsole : s.seq.soleMaster = false) (hnext : s.seq.nextStation ≠ s.cfg.thisStation)
    (hpass : s.seq.tokenCount + 1 < s.params.nPoll ∨ s.seq.nextStation = s.adjacent s.cfg.thisStation) :
    handleDoneWithToken s = .next s.passToken := by
  have hguard : s.withinPollInterval = true ∨ s.seq.nextStation = s.adjacent s.cfg.thisStation :=
    hpass.imp_left State.withinPollInterval_eq_true
  simp [handleDoneWithToken, hspent, hsole, hnext, hguard]

/-- As sole master, b4 passes the token on at the poll interval. -/
theorem handleDoneWithToken_passTokenAsSoleMaster (hsole : s.seq.soleMaster = true)
    (hpoll : s.params.nPoll ≤ s.seq.tokenCount + 1) (hadj : s.seq.nextStation = s.adjacent s.cfg.thisStation) :
    handleDoneWithToken s = .next s.passToken := by
  simp [handleDoneWithToken, hspent, hsole, State.withinPollInterval_eq_false hpoll, hadj]

section
variable (hpoll : s.params.nPoll ≤ s.seq.tokenCount + 1) (hadj : s.seq.nextStation ≠ s.adjacent s.cfg.thisStation)
include hpoll hadj

theorem handleDoneWithToken_pollGap (hknown : s.seq.soleMaster = true ∨ s.seq.nextStation ≠ s.cfg.thisStation)
    (hgap : s.adjacent s.seq.pollStation ≠ s.seq.nextStation) : handleDoneWithToken s = .next s.pollGap := by
  have hnotFirst : ¬(s.seq.soleMaster = false ∧ s.seq.nextStation = s.cfg.thisStation) := by
    rcases hknown with h | h <;> simp [h]
  simp [handleDoneWithToken, hspent.not_gt, hnotFirst, State.withinPollInterval_eq_false hpoll, hadj, hgap]

theorem handleDoneWithToken_endGap (hsole : s.seq.soleMaster = false) (hnext : s.seq.nextStation ≠ s.cfg.thisStation)
    (hend : s.adjacent s.seq.pollStation = s.seq.nextStation) : handleDoneWithToken s = .next s.endGap := by
  simp [handleDoneWithToken, hspent, hsole, hnext, State.withinPollInterval_eq_false hpoll, hadj, hend]

theorem handleDoneWithToken_endGapAsSoleMaster (hsole : s.seq.soleMaster = true)
    (hend : s.adjacent s.seq.pollStation = s.seq.nextStation) :
    handleDoneWithToken s = .next s.endGapAsSoleMaster := by
  simp [handleDoneWithToken, hspent, hsole, State.withinPollInterval_eq_false hpoll, hadj, hend]

end

end

/-! ## PASS_TOKEN (R128 to R131) -/

theorem handlePassToken_traffic (h : s.silence < s.cfg.usageTimeout) (hseen : s.params.nMinOctets < s.eventCount) :
    handlePassToken s = .next (s.goto .idle) := by
  simp [handlePassToken, State.usageTimedOut, State.activitySeen, h, hseen]

theorem handlePassToken_waits (h : s.silence < s.cfg.usageTimeout) (hquiet : s.eventCount ≤ s.params.nMinOctets) :
    handlePassToken s = .next s := by
  simp [handlePassToken, State.usageTimedOut, State.activitySeen, h.not_ge, hquiet.not_gt]

theorem handlePassToken_retries (h : (s.cfg.usageTimeout : Int) ≤ s.silence)
    (hleft : s.seq.retryCount < s.params.nRetryToken) : handlePassToken s = .next s.retryToken := by
  simp [handlePassToken, State.usageTimedOut, h, hleft]

theorem handlePassToken_findSuccessor (h : (s.cfg.usageTimeout : Int) ≤ s.silence)
    (hnone : s.params.nRetryToken ≤ s.seq.retryCount) : handlePassToken s = .next s.findSuccessor := by
  simp [handlePassToken, State.usageTimedOut, h, hnone]

/-! ## NO_TOKEN (R132 to R134) -/

/-- A legal station's slot window ends within the whole slot range (R8, R132). -/
theorem State.noTokenWindow_le_bound (hts : s.cfg.thisStation.toNat ≤ s.cfg.maxMaster.toNat) :
    s.noTokenDelay + s.params.tSlot ≤ s.noTokenBound := by
  have hslots : (s.params.tSlot * (s.cfg.thisStation.toNat + 1) : Int) ≤ s.params.tSlot * (s.cfg.maxMaster.toNat + 1) :=
    mul_le_mul_of_nonneg_left (by omega) (by omega)
  rw [mul_add_one] at hslots
  unfold State.noTokenDelay State.noTokenBound
  omega

theorem State.mayGenerateToken_iff :
    s.mayGenerateToken = true ↔
      (s.noTokenDelay ≤ s.silence ∧ s.silence < s.noTokenDelay + s.params.tSlot) ∨ s.noTokenBound < s.silence := by
  simp [State.mayGenerateToken]

theorem handleNoToken_traffic (h : s.silence < s.noTokenDelay) (hseen : s.params.nMinOctets < s.eventCount) :
    handleNoToken s = .next (s.goto .idle) := by
  simp [handleNoToken, State.activitySeen, h, hseen]

theorem handleNoToken_generates (hts : s.cfg.thisStation.toNat ≤ s.cfg.maxMaster.toNat)
    (h : (s.noTokenDelay ≤ s.silence ∧ s.silence < s.noTokenDelay + s.params.tSlot) ∨ s.noTokenBound < s.silence) :
    handleNoToken s = .next s.generateToken := by
  have hlate : ¬s.silence < s.noTokenDelay := by have := s.noTokenWindow_le_bound hts; omega
  simp [handleNoToken, hlate, State.mayGenerateToken_iff.mpr h]

/-- Before the delay with few octets heard, and between the slot window and the end of the slot range. -/
theorem handleNoToken_waits (hts : s.cfg.thisStation.toNat ≤ s.cfg.maxMaster.toNat)
    (h : (s.silence < s.noTokenDelay ∧ s.eventCount ≤ s.params.nMinOctets) ∨
      (s.noTokenDelay + s.params.tSlot ≤ s.silence ∧ s.silence ≤ s.noTokenBound)) : handleNoToken s = .next s := by
  have hbound := s.noTokenWindow_le_bound hts
  have hno : ¬(s.silence < s.noTokenDelay ∧ s.params.nMinOctets < s.eventCount) := by omega
  have hkeep : ¬s.mayGenerateToken = true := by rw [State.mayGenerateToken_iff]; omega
  simp [handleNoToken, State.activitySeen, hno, hkeep]

/-! ## POLL_FOR_MASTER with no valid frame pending (R138 to R142) -/

theorem State.longCondition_iff :
    s.longCondition = true ↔ (s.cfg.usageTimeout : Int) ≤ s.silence ∨ s.rx.receivedInvalidFrame ≠ none := by
  simp [State.longCondition, State.usageTimedOut, Option.isSome_iff_ne_none]

section
variable (hv : s.rx.receivedValidFrame = false)
include hv

theorem handlePollForMaster_waits
    (h : ¬((s.cfg.usageTimeout : Int) ≤ s.silence ∨ s.rx.receivedInvalidFrame ≠ none)) :
    handlePollForMaster s = .next s := by
  rw [handlePollForMaster, State.pendingFrame_eq_none hv]
  exact if_neg (mt State.longCondition_iff.mp h)

theorem handlePollForMaster_ends (h : (s.cfg.usageTimeout : Int) ≤ s.silence ∨ s.rx.receivedInvalidFrame ≠ none) :
    handlePollForMaster s = .next s.consumeInvalid.endPoll := by
  rw [handlePollForMaster, State.pendingFrame_eq_none hv]
  exact if_pos (State.longCondition_iff.mpr h)

end

theorem State.endPoll_soleMaster (hsole : s.seq.soleMaster = true) :
    s.endPoll = { s with seq.frameCount := 0, seq.state := .useToken } := by
  simp [State.endPoll, hsole]

theorem State.endPoll_passes (hsole : s.seq.soleMaster = false) (hnext : s.seq.nextStation ≠ s.cfg.thisStation) :
    s.endPoll = s.passAfterPoll := by
  simp [State.endPoll, hsole, hnext]

theorem State.endPoll_polls (hsole : s.seq.soleMaster = false) (hnext : s.seq.nextStation = s.cfg.thisStation)
    (hleft : s.adjacent s.seq.pollStation ≠ s.cfg.thisStation) : s.endPoll = s.pollNext := by
  simp [State.endPoll, hsole, hnext, hleft]

theorem State.endPoll_declares (hsole : s.seq.soleMaster = false) (hnext : s.seq.nextStation = s.cfg.thisStation)
    (hnone : s.adjacent s.seq.pollStation = s.cfg.thisStation) : s.endPoll = s.declareSoleMaster := by
  simp [State.endPoll, hsole, hnext, hnone]

/-! ## ANSWER_DATA_REQUEST (R143 to R147) -/

theorem handleAnswerDataRequest_sends {r : Frame} (h : s.buf.replyFrame = some r) :
    handleAnswerDataRequest s =
      .next (State.goto { s.sendFrame r.type r.destination r.data with buf.replyFrame := none } .idle) := by
  simp [handleAnswerDataRequest, h]

section
variable (h : s.buf.replyFrame = none)
include h

theorem handleAnswerDataRequest_postpones (hpast : s.seq.replyDeadline < s.env.now) :
    handleAnswerDataRequest s = .next ((s.sendFrame typeRpost s.seq.answerSource []).goto .idle) := by
  simp [handleAnswerDataRequest, State.deadlinePassed, h, hpast]

theorem handleAnswerDataRequest_clamps (hdue : s.env.now ≤ s.seq.replyDeadline)
    (hback : (s.params.tReplyDelay : Int) < s.seq.replyDeadline - s.env.now) :
    handleAnswerDataRequest s = .next { s with seq.replyDeadline := s.env.now + s.params.tReplyDelay } := by
  simp [handleAnswerDataRequest, State.deadlinePassed, State.clockRegressed, h, hdue.not_gt, hback]

theorem handleAnswerDataRequest_waits (hdue : s.env.now ≤ s.seq.replyDeadline)
    (hback : s.seq.replyDeadline - s.env.now ≤ s.params.tReplyDelay) : handleAnswerDataRequest s = .next s := by
  simp [handleAnswerDataRequest, State.deadlinePassed, State.clockRegressed, h, hdue.not_gt, hback.not_gt]

end

end

/-! ## The obligations -/

/-- Settles O29, by the branch of R106. -/
theorem lostTokenLeavesIdle : Obligations.LostTokenLeavesIdle :=
  fun _ _ _ hat hs hlost => step_of_handler hat hs (handleIdle_lostToken hlost) rfl

/-- Settles O30, by the branches of R107 and of nothing pending. -/
theorem idleConsumesInvalidFrame : Obligations.IdleConsumesInvalidFrame :=
  fun _ _ _ hat hs hsoon =>
    ⟨fun hi => step_of_handler hat hs (handleIdle_invalid hsoon hi) rfl,
      fun hi hv => step_of_handler hat hs (handleIdle_nothing hsoon hi hv) rfl⟩

/-- Settles O31, by the type of the oldest frame. -/
theorem useTokenSendsOldestFrame : Obligations.UseTokenSendsOldestFrame := by
  intro s now rest hat hs
  refine ⟨fun hq => step_of_handler hat hs (handleUseToken_empty hq) rfl, fun q qs hq => ⟨fun ht => ?_, fun ht => ?_⟩⟩
  · exact step_of_handler hat hs (handleUseToken_sends hq (afterQueuedFrame_eq_some ht)) rfl
  · rw [step_at_slot hat, hs]
    exact congrArg (thenNext · _) (handleUseToken_faults (s := s.started now rest) hq (afterQueuedFrame_eq_none ht))

/-- Settles O32, branch by branch. -/
theorem waitEndsBeforeFrames : Obligations.WaitEndsBeforeFrames :=
  fun _ _ _ hat hs =>
    ⟨fun hlate => step_of_handler hat hs (handleWaitForReply_timeout hlate) rfl,
      fun hsoon hi => step_of_handler hat hs (handleWaitForReply_invalid hsoon hi) rfl,
      fun hsoon hi hv => step_of_handler hat hs (handleWaitForReply_nothing hsoon hi hv) rfl⟩

/-- Settles O33, by b1 and b3. -/
theorem doneWithTokenKeepsToken : Obligations.DoneWithTokenKeepsToken :=
  fun _ _ _ hat hs =>
    ⟨fun hleft => step_of_handler hat hs (handleDoneWithToken_useAgain hleft) rfl,
      fun hspent hsole hpoll => step_of_handler hat hs (handleDoneWithToken_keepToken hspent hsole hpoll) rfl⟩

/-- Settles O34, by b2, b5 and b7. -/
theorem doneWithTokenPolls : Obligations.DoneWithTokenPolls :=
  fun _ _ _ hat hs hspent =>
    ⟨fun hsole hnext => step_of_handler hat hs (handleDoneWithToken_pollFirst hspent hsole hnext) rfl,
      fun hknown hpoll hadj hgap =>
        step_of_handler hat hs (handleDoneWithToken_pollGap hspent hpoll hadj hknown hgap) rfl,
      fun hsole hpoll hadj hend =>
        step_of_handler hat hs (handleDoneWithToken_endGapAsSoleMaster hspent hpoll hadj hsole hend) rfl⟩

/-- Settles O35: b4 has one way for a sole master and one for a node with a successor. -/
theorem doneWithTokenPassesToken : Obligations.DoneWithTokenPassesToken := by
  intro s now rest hat hs hspent
  refine ⟨fun hpass => ?_, fun hsole hnext hpoll hadj hend =>
    step_of_handler hat hs (handleDoneWithToken_endGap hspent hpoll hadj hsole hnext hend) rfl⟩
  rcases hpass with ⟨hsole, hnext, hpass⟩ | ⟨hsole, hpoll, hadj⟩
  · exact step_of_handler hat hs (handleDoneWithToken_passToken hspent hsole hnext hpass) rfl
  · exact step_of_handler hat hs (handleDoneWithToken_passTokenAsSoleMaster hspent hsole hpoll hadj) rfl

/-- Settles O36, branch by branch. -/
theorem passTokenBranches : Obligations.PassTokenBranches :=
  fun _ _ _ hat hs =>
    ⟨fun hsoon hseen => step_of_handler hat hs (handlePassToken_traffic hsoon hseen) rfl,
      fun hsoon hquiet => step_of_handler hat hs (handlePassToken_waits hsoon hquiet) rfl,
      fun hlate hleft => step_of_handler hat hs (handlePassToken_retries hlate hleft) rfl,
      fun hlate hnone => step_of_handler hat hs (handlePassToken_findSuccessor hlate hnone) rfl⟩

/-- Settles O37, branch by branch; the two ways to wait are one lemma. -/
theorem noTokenBranches : Obligations.NoTokenBranches :=
  fun _ _ _ hat hs hts =>
    ⟨fun hsoon hseen => step_of_handler hat hs (handleNoToken_traffic hsoon hseen) rfl,
      fun hsoon hquiet => step_of_handler hat hs (handleNoToken_waits hts (.inl ⟨hsoon, hquiet⟩)) rfl,
      fun hafter hwithin => step_of_handler hat hs (handleNoToken_waits hts (.inr ⟨hafter, hwithin⟩)) rfl,
      fun hwindow => step_of_handler hat hs (handleNoToken_generates hts hwindow) rfl⟩

/-- Settles O38: with the long condition the cause is consumed, and one of `endPoll`'s branches taken. -/
theorem pollUnansweredBranches : Obligations.PollUnansweredBranches := by
  intro s now rest hat hs hv u long
  have hends (hlong : long) : handler .pollForMaster u = .next u.consumeInvalid.endPoll :=
    handlePollForMaster_ends hv hlong
  refine ⟨fun hshort => step_of_handler hat hs (handlePollForMaster_waits hv hshort) rfl, fun hlong hsole => ?_,
    fun hlong hsole hnext => ?_, fun hlong hsole hnext hleft => ?_, fun hlong hsole hnext hnone => ?_⟩
  · exact step_of_handler hat hs ((hends hlong).trans (congrArg _ (State.endPoll_soleMaster hsole))) rfl
  · exact step_of_handler hat hs ((hends hlong).trans (congrArg _ (State.endPoll_passes hsole hnext))) rfl
  · exact step_of_handler hat hs ((hends hlong).trans (congrArg _ (State.endPoll_polls hsole hnext hleft))) rfl
  · exact step_of_handler hat hs ((hends hlong).trans (congrArg _ (State.endPoll_declares hsole hnext hnone))) rfl

/-- Settles O40, branch by branch. -/
theorem answerDataRequestBranches : Obligations.AnswerDataRequestBranches :=
  fun _ _ _ hat hs =>
    ⟨fun _ hr => step_of_handler hat hs (handleAnswerDataRequest_sends hr) rfl,
      fun hnone hpast => step_of_handler hat hs (handleAnswerDataRequest_postpones hnone hpast) rfl,
      fun hnone hdue hback => step_of_handler hat hs (handleAnswerDataRequest_clamps hnone hdue hback) rfl,
      fun hnone hdue hback => step_of_handler hat hs (handleAnswerDataRequest_waits hnone hdue hback) rfl⟩

end Sys2Proof.Machine
end

section
/-! PROOFS. The host operations branch by branch, one equation per branch with its guard in the numbers of the registers
(R154 to R162), and a reply set from inside the delivery hook (R164). -/

namespace Sys2Proof.Machine

section
variable {s : State} {op : HostOp} {type destination : Octet} {data : List Octet}

/-! ## The outbound queue (R154) -/

theorem queueableType_iff : queueableType type = true ↔ type ∈ [0x05#8, 0x06#8, 0x03#8] := by
  simp [queueableType, or_assoc]

theorem State.queueHasRoom_eq_false :
    s.queueHasRoom = false ↔ ∃ c, s.params.queueCapacity = some c ∧ c ≤ s.buf.framesToSend.length := by
  rw [← Bool.not_eq_true, s.queueHasRoom_iff]
  push Not
  rfl

theorem State.queueHasRoom_of_unbounded (h : s.params.queueCapacity = none) : s.queueHasRoom = true :=
  s.queueHasRoom_iff.mpr (by simp [h])

/-- The checks of `queueFrame` are passed: the frame is pushed, or the call is held. -/
theorem State.enqueue_accepted (ht : type ∈ [0x05#8, 0x06#8, 0x03#8]) (hx : data.length ≤ s.params.codec.maxData) :
    s.enqueue op type destination data = s.pushOrHold op (s.hostFrame type destination data) := by
  simp [State.enqueue, queueableType_iff.mpr ht, hx]

theorem State.enqueue_pushes (ht : type ∈ [0x05#8, 0x06#8, 0x03#8]) (hx : data.length ≤ s.params.codec.maxData)
    (hroom : s.queueHasRoom = true) :
    s.enqueue op type destination data = (s.pushFrame (s.hostFrame type destination data)).returnTo op .ok :=
  (State.enqueue_accepted ht hx).trans (if_pos hroom)

theorem State.enqueue_holds (ht : type ∈ [0x05#8, 0x06#8, 0x03#8]) (hx : data.length ≤ s.params.codec.maxData)
    (hfull : s.queueHasRoom = false) :
    s.enqueue op type destination data = s.holdCall op (s.hostFrame type destination data) :=
  (State.enqueue_accepted ht hx).trans (if_neg (by simp [hfull]))

/-! ## Held calls (R151, R154) -/

theorem State.resumeCall_of_none {k : Nat} (h : s.env.waiting[k]? = none) : s.resumeCall k = s := by
  simp [State.resumeCall, h]

theorem State.resumeCall_pushes {k : Nat} {w : WaitingCall} (h : s.env.waiting[k]? = some w)
    (hroom : s.queueHasRoom = true) :
    s.resumeCall k =
      State.returnTo (State.pushFrame { s with env.waiting := s.env.waiting.eraseIdx k } w.frame) w.op .ok := by
  simp [State.resumeCall, h, hroom]

theorem State.resumeCall_stays (k : Nat) (hfull : s.queueHasRoom = false) : s.resumeCall k = s := by
  obtain e | ⟨w, -, hroom, -⟩ := s.resumeCall_cases k
  · exact e
  · rw [hfull] at hroom; cases hroom

/-! ## `setReplyFrame` (R155) -/

theorem hostSetReplyFrame_fills (hx : data.length ≤ s.params.codec.maxData) (hs : s.seq.state = .answerDataRequest) :
    hostSetReplyFrame type destination data s =
      State.returnTo { s with buf.replyFrame := some (s.hostFrame type destination data) }
        (.setReplyFrame type destination data) .ok := by
  simp [hostSetReplyFrame, hx, hs]

/-- Outside ANSWER_DATA_REQUEST the call does what `queueFrame` does, and is answered as itself. -/
theorem hostSetReplyFrame_queues (hx : data.length ≤ s.params.codec.maxData) (hs : s.seq.state ≠ .answerDataRequest) :
    hostSetReplyFrame type destination data s =
      s.enqueue (.setReplyFrame type destination data) type destination data := by
  simp [hostSetReplyFrame, hx, hs]

theorem hostSetReplyFrame_pushes (hx : data.length ≤ s.params.codec.maxData) (hs : s.seq.state ≠ .answerDataRequest)
    (ht : type ∈ [0x05#8, 0x06#8, 0x03#8]) (hroom : s.queueHasRoom = true) :
    hostSetReplyFrame type destination data s =
      (s.pushFrame (s.hostFrame type destination data)).returnTo (.setReplyFrame type destination data) .ok :=
  (hostSetReplyFrame_queues hx hs).trans (State.enqueue_pushes ht hx hroom)

/-! ## The setters (R156 to R158) -/

section
variable {n : Int}

theorem hostSetMaxMaster_writes (hlow : (s.cfg.thisStation.toNat : Int) ≤ n) (hhigh : n ≤ 127) :
    hostSetMaxMaster n s =
      State.returnTo { s with cfg.maxMaster := BitVec.ofNat 8 n.toNat } (.setMaxMaster n) .ok :=
  if_neg (not_or.mpr ⟨hlow.not_gt, hhigh.not_gt⟩)

theorem hostSetMaxMaster_faults (h : n < s.cfg.thisStation.toNat ∨ 127 < n) :
    hostSetMaxMaster n s = s.raiseConfigFault (.setMaxMaster n) .maxMaster := if_pos h

theorem hostSetMaxInfoFrames_writes (h : 1 ≤ n) :
    hostSetMaxInfoFrames n s =
      State.returnTo { s with cfg.maxInfoFrames := n.toNat } (.setMaxInfoFrames n) .ok := if_neg h.not_gt

theorem hostSetMaxInfoFrames_faults (h : n < 1) :
    hostSetMaxInfoFrames n s = s.raiseConfigFault (.setMaxInfoFrames n) .maxInfoFrames := if_pos h

theorem hostSetUsageTimeout_writes (hlow : 20 ≤ n) (hhigh : n ≤ 100) :
    hostSetUsageTimeout n s =
      State.returnTo { s with cfg.usageTimeout := n.toNat } (.setUsageTimeout n) .ok :=
  if_neg (not_or.mpr ⟨hlow.not_gt, hhigh.not_gt⟩)

theorem hostSetUsageTimeout_faults (h : n < 20 ∨ 100 < n) :
    hostSetUsageTimeout n s = s.raiseConfigFault (.setUsageTimeout n) .usageTimeout := if_pos h

/-- The octet of a number that is not negative, read from the integer or from the natural number. -/
theorem ofInt_eq_ofNat_toNat (h : 0 ≤ n) : BitVec.ofInt 8 n = BitVec.ofNat 8 n.toNat := by
  rw [← BitVec.ofInt_natCast, Int.toNat_of_nonneg h]

end

/-! ## The life of a block (R161, R162) -/

theorem hostInitialize_faults (h : s.lifecycle ≠ .constructed) :
    hostInitialize s = s.raiseConfigFault .initializeBlock .lifecycle := if_pos h

theorem hostInitialize_runs (h : s.lifecycle = .constructed) :
    hostInitialize s =
      State.returnTo { s.publish with rx.lastNonSilence := s.env.now, lifecycle := .running } .initializeBlock .ok :=
  if_neg (not_not.mpr h)

theorem hostConstruct_constructs {ts rc : Nat} (hts : ts ≤ 127) :
    hostConstruct ts rc s =
      State.returnTo
        (State.constructed s.params (BitVec.ofNat 8 ts) rc { s.env with waiting := [] }) (.construct ts rc) .ok := by
  have hlegal : ¬ ((ts : Int) < 0 ∨ (Config.maxMaster : Int) < ts) := by simp only [Config.maxMaster]; omega
  have hretry : ¬ (rc : Int) < 0 := by omega
  simp only [hostConstruct, if_neg hlegal, if_neg hretry, Int.toNat_natCast]

/-! ## A reply set from inside the delivery hook (R112, R155, R164) -/

/-- At IDLE_DER_TAIL the state is still IDLE, so the reply slot is empty (R31, R112). -/
theorem State.Wf.tail_idle {source : Octet} (hw : s.Wf) (hp : s.seq.phase = .idleDerTail source) :
    s.seq.state = .idle ∧ s.buf.replyFrame = none := by
  obtain ⟨-, -, -, ⟨hslot, -⟩, -, -, -, htail, -⟩ := hw
  have hidle : s.seq.state = .idle := htail (by rw [hp]; rfl)
  refine ⟨hidle, Option.not_isSome_iff_eq_none.mp fun hfilled => ?_⟩
  have hanswer := hslot hfilled
  rw [hidle] at hanswer
  cases hanswer

/-- The reply goes to the unbounded queue, and the worker is still at IDLE_DER_TAIL. -/
theorem step_queues_reply_in_tail {source : Octet} {now : Int} {rest : List Event} (hw : s.Wf)
    (hp : s.seq.phase = .idleDerTail source) (ht : type ∈ [0x05#8, 0x06#8, 0x03#8])
    (hx : data.length ≤ s.params.codec.maxData) (hunbounded : s.params.queueCapacity = none)
    (hschedule : s.env.schedule = .host (.setReplyFrame type destination data) now :: rest) :
    step s =
      .next (((s.started now rest).pushFrame (s.hostFrame type destination data)).returnTo
        (.setReplyFrame type destination data) .ok) := by
  have hs : s.seq.state ≠ .answerDataRequest := by rw [(State.Wf.tail_idle hw hp).1]; decide
  have hroom : (s.started now rest).queueHasRoom = true := State.queueHasRoom_of_unbounded hunbounded
  exact (step_host hschedule).trans
    (congrArg _ (hostSetReplyFrame_pushes (s := s.started now rest) hx hs ht hroom))

end

/-! ## The obligations -/

/-- Settles O50: the call is queued in IDLE, and the micro-step at IDLE_DER_TAIL then leaves queue and slot alone. -/
theorem replyInsideHookIsQueued : Obligations.ReplyInsideHookIsQueued := by
  intro s type d source x t1 t2 rest hwf hphase htype hx hunbounded hschedule
  have hslot := (State.Wf.tail_idle hwf hphase).2
  have hqueued := step_queues_reply_in_tail hwf hphase htype hx hunbounded hschedule
  have hrun := (run_succ 1 hqueued).trans (run_succ 0 (requestTailEntersAnswerState _ t2 rest source rfl hphase))
  exact ⟨_, hrun, rfl, hslot, rfl, rfl, rfl⟩

/-- Settles O44, setter by setter. -/
theorem settersWriteInRange : Obligations.SettersWriteInRange := by
  intro s n
  refine ⟨fun hlow hhigh => ?_, hostSetMaxMaster_faults, hostSetMaxInfoFrames_writes, hostSetMaxInfoFrames_faults,
    hostSetUsageTimeout_writes, hostSetUsageTimeout_faults⟩
  rw [ofInt_eq_ofNat_toNat (by omega)]
  exact hostSetMaxMaster_writes hlow hhigh

/-- Settles O45: the call's checks are passed, and a held call looks only for room. -/
theorem queueFramePushesOrHolds : Obligations.QueueFramePushesOrHolds := by
  intro s
  refine ⟨fun type d x htype hx => ⟨fun hroom => ?_, fun hfull => ?_⟩,
    fun k w hw => ⟨fun hroom => ?_, fun hfull => ?_⟩, fun k => State.resumeCall_of_none⟩
  · exact State.enqueue_pushes htype hx (s.queueHasRoom_iff.mpr hroom)
  · exact State.enqueue_holds htype hx (State.queueHasRoom_eq_false.mpr hfull)
  · exact State.resumeCall_pushes hw (s.queueHasRoom_iff.mpr hroom)
  · exact State.resumeCall_stays k (State.queueHasRoom_eq_false.mpr hfull)

/-- Settles O46: the state alone decides between the slot and `queueFrame`'s path. -/
theorem setReplyFrameFillsSlotOrQueues : Obligations.SetReplyFrameFillsSlotOrQueues := by
  intro s type d x hx
  refine ⟨hostSetReplyFrame_fills hx, fun hs htype => ⟨fun hroom => ?_, fun c hc hfull => ?_⟩⟩
  · exact hostSetReplyFrame_pushes hx hs htype (s.queueHasRoom_iff.mpr hroom)
  · exact (hostSetReplyFrame_queues hx hs).trans
      (State.enqueue_holds htype hx (State.queueHasRoom_eq_false.mpr ⟨c, hc, hfull⟩))

/-- Settles O47: the first two operations have one branch each. -/
theorem lifecycleOperations : Obligations.LifecycleOperations :=
  fun _ => ⟨rfl, rfl, hostInitialize_faults, hostInitialize_runs⟩

/-- Settles O48: the arguments pass both checks, and the new block is `State.constructed`. -/
theorem constructGivesResetValues : Obligations.ConstructGivesResetValues := by
  intro s ts rc hts t
  have ht : t = _ := hostConstruct_constructs hts
  rw [ht]
  exact ⟨rfl, rfl, rfl, rfl, rfl, rfl, rfl⟩

end Sys2Proof.Machine
end

section
/-! PROOFS. Configuration faults: an operation answering one is `State.raiseConfigFault` (R176), and the checks of
`Construct`, `queueFrame` and `setReplyFrame`, each with those before it passed (R177). -/

namespace Sys2Proof.Machine

section
variable {s : State} {op : HostOp} {type destination : Octet} {data : List Octet}

/-! ## What a host operation answers (R176) -/

/-- Apart from a fault, a call is held without an answer, or completes with `ok` or a boolean. -/
theorem HostEffect.answer {t : State} (h : HostEffect op s t) :
    (∃ c, t = s.raiseConfigFault op c) ∨ t.env.returned = s.env.returned ∨
      t.env.returned = s.env.returned ++ [⟨op, .ok⟩] ∨
      ∃ b, t.env.returned = s.env.returned ++ [⟨op, .boolean b⟩] := by
  cases h with
  | faulted c => exact .inl ⟨c, rfl⟩
  | held => exact .inr (.inl rfl)
  | tokenAsked => exact .inr (.inr (.inr ⟨_, rfl⟩))
  | pushed | replied | maxMasterSet | maxInfoFramesSet | usageTimeoutSet | terminated | initialized | constructed =>
    exact .inr (.inr (.inl rfl))

/-- A recorded fault is the fault raised: no other outcome adds this answer. -/
theorem HostEffect.eq_raiseConfigFault {t : State} {c : ConfigFault} (h : HostEffect op s t)
    (hanswer : t.env.returned = s.env.returned ++ [⟨op, .configFault c⟩]) : t = s.raiseConfigFault op c := by
  obtain ⟨c', rfl⟩ | hheld | hok | ⟨b, hboolean⟩ := h.answer
  · have hcause : c' = c := by simpa using hanswer
    rw [hcause]
  · simp [hheld] at hanswer
  · simp [hok] at hanswer
  · simp [hboolean] at hanswer

/-! ## The checks in their order (R177) -/

theorem hostConstruct_faults_station {ts rc : Int} (h : ts < 0 ∨ 127 < ts) :
    hostConstruct ts rc s = s.raiseConfigFault (.construct ts rc) .stationRange := if_pos h

theorem hostConstruct_faults_retryCount {ts rc : Int} (hlow : 0 ≤ ts) (hhigh : ts ≤ 127) (hrc : rc < 0) :
    hostConstruct ts rc s = s.raiseConfigFault (.construct ts rc) .retryCount :=
  (if_neg (not_or.mpr ⟨hlow.not_gt, hhigh.not_gt⟩)).trans (if_pos hrc)

theorem State.enqueue_faults_type (ht : type ∉ [0x05#8, 0x06#8, 0x03#8]) :
    s.enqueue op type destination data = s.raiseConfigFault op .frameType := by
  have hrefused : queueableType type = false := by rwa [← Bool.not_eq_true, queueableType_iff]
  simp [State.enqueue, hrefused]

theorem State.enqueue_faults_length (ht : type ∈ [0x05#8, 0x06#8, 0x03#8]) (hx : s.params.codec.maxData < data.length) :
    s.enqueue op type destination data = s.raiseConfigFault op .dataLength := by
  simp [State.enqueue, queueableType_iff.mpr ht, hx]

theorem hostSetReplyFrame_faults_length (hx : s.params.codec.maxData < data.length) :
    hostSetReplyFrame type destination data s =
      s.raiseConfigFault (.setReplyFrame type destination data) .dataLength := if_pos hx

end

/-! ## The obligations -/

/-- Settles O42: the outcome that records the fault is `State.raiseConfigFault`, which only records the answer. -/
theorem configFaultChangesNothing : Obligations.ConfigFaultChangesNothing :=
  fun op _ s hanswer => (runHostOp_effect op s).eq_raiseConfigFault hanswer

/-- Settles O43, operation by operation; `setReplyFrame` checks the type on its queue path. -/
theorem configFaultPriority : Obligations.ConfigFaultPriority :=
  fun _ =>
    ⟨fun _ _ => ⟨hostConstruct_faults_station, hostConstruct_faults_retryCount⟩,
      fun _ _ _ => ⟨State.enqueue_faults_type, State.enqueue_faults_length⟩,
      fun _ _ _ => ⟨hostSetReplyFrame_faults_length,
        fun hx hs ht => (hostSetReplyFrame_queues hx hs).trans (State.enqueue_faults_type ht)⟩⟩

end Sys2Proof.Machine
end

section
/-! PROOFS. Reset (R230): the model's choice of parameters and of the construction arguments is legal (log 1, log 2,
log 4), so the reset state is an instance of the new block of `Construct`. -/

namespace Sys2Proof.Machine

/-- A closed fact about ten numbers: the constraints of R3, R4, R9 to R11 and R59, on the defaults. -/
theorem defaultParams_wellFormed : Config.defaultParams.WellFormed := by decide

/-- Settles O52: address 0 is legal and no call is held in the empty environment, so a new block is well formed. -/
theorem resetIsWellFormed : Obligations.ResetIsWellFormed :=
  State.constructed_wf defaultParams_wellFormed (Nat.zero_le _) rfl

end Sys2Proof.Machine
end
